-- ==== Sys2Proof/Word.lean ====
section
/-! DEFINITION. The 16-bit word that crosses the ring, the byte, and their plainest arithmetic (R7). -/

namespace Sys2Proof

/-- A word, places 15 (most significant) down to 0 (R7). -/
abbrev Word := BitVec 16

/-- Half a word; also one place per channel or input, number 0 lowest (R7). -/
abbrev Byte := BitVec 8

/-- Places 15 to 8 (R7). -/
def hiByte (w : Word) : Byte := w.extractLsb' 8 8

/-- Places 7 to 0 (R7). -/
def loByte (w : Word) : Byte := w.extractLsb' 0 8

/-- A word from its high and its low byte (R7). -/
def wordOf (hi lo : Byte) : Word := hi ++ lo

end Sys2Proof
end

