-- ==== Sys2Proof/Syntax.lean ====
section
/-! DEFINITION. The commands the station takes: one constructor per row of spec/opcode_table.json, with the operands the
rules give the row. -/

namespace Sys2Proof

/-- What the receive port delivers in one item time (R1). -/
inductive Item where
  | marker
  | idle
  | word (value : Word)
  | fault
  deriving DecidableEq, Repr

/-- The destination type a command was collected with (R70, R152). -/
inductive DestType where
  | single
  | group
  | all
  deriving DecidableEq, Repr

/-- A collected command without its kind: destination type, tag and arguments (R13, R71). -/
structure Call where
  dest : DestType
  tag : Byte
  a0 : Word
  a1 : Word
  a2 : Word
  a3 : Word
  deriving DecidableEq, Repr

/-- A WRITE-PARAM whose a0 the row fixes: destination type, tag, the value a1, and a2 and a3 (R164). -/
structure WriteCall where
  dest : DestType
  tag : Byte
  a1 : Word
  a2 : Word
  a3 : Word
  deriving DecidableEq, Repr

/-- What can fall while the station is at work on one item and is taken whole before or after any part of that work
(R66, R111, R132, R154, R173, R180): a change of the GUARD pin's level, or a FAULT item of a next item time (log 23). -/
inductive Amid where
  | guardChange
  | fault
  deriving DecidableEq, Repr

/-- The commands: every row of the table. -/
inductive Instr where
  /-- POWER_UP (R3). -/
  | powerUp
  /-- RESET_PIN_ASSERTED (R5). -/
  | resetPinAsserted
  /-- HARDWARE_RESET (R6): the release of RESET#, with the levels of SA4 to SA0. -/
  | hardwareReset (straps : BitVec 5)
  /-- ITEM_RECEIVED (R2): one item, the levels of IN7 to IN0 in its item time, and what falls amid the work it causes: the
  first list before the first held-list entry, queued record or slot decision, the next list before the next, the rest at
  the end (R132, R154, R180; log 10, 23). -/
  | itemReceived (item : Item) (inputs : Byte) (amid : List (List Amid))
  /-- CYCLE_COMPLETED (R31): the trailer has come and checks; `amid` as for an item. -/
  | cycleCompleted (amid : List (List Amid))
  /-- CYCLE_MISSED (R33). -/
  | cycleMissed
  /-- PLAN_SWAP (R51): the comparison at an accepted marker with this cycle number M. -/
  | planSwap (number : Word)
  /-- APPLY_INSTANT (R85). -/
  | applyInstant
  /-- GUARD_PIN_ACTIVE (R103). -/
  | guardPinActive
  /-- GUARD_PIN_INACTIVE (R103). -/
  | guardPinInactive
  /-- RECORD_SENT (R135): the slot that has just passed is offered, out of resend mode. -/
  | recordSent
  /-- RECORD_RESENT (R136): the slot that has just passed is offered, in resend mode. -/
  | recordResent
  /-- RETRY_EXPIRY (R137). -/
  | retryExpiry
  /-- ECHO (R162). -/
  | echo (call : Call)
  /-- UNKNOWN_COMMAND (R161), with the kind code as it arrived. -/
  | unknownCommand (code : Byte) (call : Call)
  /-- READ_PARAM (R163). -/
  | readParam (call : Call)
  /-- WRITE_PARAM (R164). -/
  | writeParam (call : Call)
  /-- WRITE_GUARD_PIN_POLARITY (R104): WRITE-PARAM to P6. -/
  | writeGuardPinPolarity (write : WriteCall)
  /-- WRITE_RETURN_WINDOW (R146): WRITE-PARAM to P3. -/
  | writeReturnWindow (write : WriteCall)
  /-- WRITE_CHANNEL_CONFIGURATION (R82): WRITE-PARAM to P16 plus the channel. -/
  | writeChannelConfiguration (channel : Fin 8) (write : WriteCall)
  /-- WRITE_GUARD_MODE (R83): WRITE-PARAM to P24 plus the channel. -/
  | writeGuardMode (channel : Fin 8) (write : WriteCall)
  /-- READ_ENTRY (R47). -/
  | readEntry (call : Call)
  /-- WRITE_ENTRY (R45). -/
  | writeEntry (call : Call)
  /-- COPY_ACTIVE (R46). -/
  | copyActive (call : Call)
  /-- COMMIT (R49). -/
  | commit (call : Call)
  /-- CANCEL_COMMIT (R54). -/
  | cancelCommit (call : Call)
  /-- READ_STATUS (R165). -/
  | readStatus (call : Call)
  /-- CLEAR_STATUS (R166). -/
  | clearStatus (call : Call)
  /-- READ_COUNTERS (R167). -/
  | readCounters (call : Call)
  /-- CLEAR_COUNTERS (R168). -/
  | clearCounters (call : Call)
  /-- ACKNOWLEDGE (R142). -/
  | acknowledge (call : Call)
  /-- GUARD_TRIP (R106). -/
  | guardTrip (call : Call)
  /-- GUARD_CLEAR (R109). -/
  | guardClear (call : Call)
  /-- RESET_STATION (R169). -/
  | resetStation (call : Call)
  deriving DecidableEq, Repr

end Sys2Proof
end

