-- ==== Sys2Proof/Config.lean ====
section
/-! DEFINITION. What the part fixes once for all (latency, limits, identity) and the free values: what the manual leaves
open and no proof can see. -/

namespace Sys2Proof.Config

/-- Item times between an item's arrival and its departure (R2). -/
def latency : Nat := 12

/-- The largest spacing of two markers, in item times (R25). -/
def maxSpacing : Nat := 250000

/-- A window reaches this many item times to either side of the expected one, and so does an acceptable spacing (R25, R27). -/
def tolerance : Nat := 4

/-- Places of the reply queue (R130). -/
def replyPlaces : Nat := 8

/-- Places of the event queue (R131). -/
def eventPlaces : Nat := 16

/-- An EVENT is admitted to the event queue only below this many records (R123). -/
def eventLimit : Nat := 14

/-- P61, the part identity (R163). -/
def identity : Word := 2608

/-- P62, the revision (R163). -/
def revision : Word := 1

/-- FREE VALUE (log 7). The order in which the records raised at one accepted marker enter the event queue:
"in any order among themselves" (R26, R52, R141). Read with `State.choice`; a number stands for a permutation. -/
opaque arrivalOrder : Nat → Nat

/-- FREE VALUE (log 8). Whether GUARD-TRIPPED enters the event queue before LINK-LOST at a link loss that trips the
guard: "in either order" (R36, R102). Read with `State.choice`. -/
opaque tripBeforeAlert : Nat → Bool

/-- FREE VALUE (log 9). Whether a RANGE refusal of CLEAR-STATUS, which clears nothing, carries in d0 the flags that are
still set, as its reply sentence can be read (R166), or the 0 of R160. -/
opaque clearRefusalReports : Bool

end Sys2Proof.Config
end

