-- ==== Sys2Proof/Machine/Blocks.lean ====
section
/-! DEFINITION. The types of what each block of the station holds, with the names of the rules' tables. -/

namespace Sys2Proof.Machine

/-! Forwarding path (R2, R4, R58) -/

/-- One place of the delay line: the item as it arrived; the word it leaves as when its slot leaves rewritten; on the
first word of a rewritten slot, the slot's check change (R62); what a trailer adjustment adds to it (R4, R73); whether it
stands at the trailer position of an accepted cycle. -/
structure Cell where
  arrived : Item
  rewritten : Option Word
  change : Option Word
  adjust : Word
  trailer : Bool
  deriving DecidableEq, Repr

/-- A trailer position kept through the assertion of the reset pin: the number of items up to and including it, and the
net change to add (R4). -/
structure KeptTrailer where
  after : Nat
  change : Word
  deriving DecidableEq, Repr

/-- The forwarding path: the delay line, oldest item first; the item sent in the last item time; kept trailers. -/
structure Forward where
  line : List Cell
  tx : Item
  kept : List KeptTrailer
  deriving DecidableEq, Repr

/-- The signal pins the station reads, RESET# included (00_scope, Pins). OUT0 to OUT7 are decided by R92. -/
structure Pins where
  resetLow : Bool
  guardHigh : Bool
  inputs : Byte
  straps : BitVec 5
  deriving DecidableEq, Repr

/-! Framer (R19) -/

/-- Acquisition state. -/
inductive Acquisition where
  | hunt
  | confirm
  | locked
  | coasting
  deriving DecidableEq, Repr

/-- Cycle kind, header word B place 15 (R8). -/
inductive CycleKind where
  | a
  | b
  deriving DecidableEq, Repr

/-- A marker the framer keeps: its cycle number and the item time of its arrival. -/
structure Marker where
  number : Word
  time : Nat
  deriving DecidableEq, Repr

/-- The candidate of CONFIRM (R23). -/
structure Candidate where
  number : Word
  time : Nat
  slots : Nat
  good : Nat
  target : Nat
  deriving DecidableEq, Repr

/-- What a MARKER is judged for: a possible cycle start in HUNT or after a failed candidate (R22, R24), the successor of a
completed candidate (R25), or the expected cycle in its window (R28). -/
inductive Purpose where
  | search
  | successor
  | window
  deriving DecidableEq, Repr

/-- A MARKER being judged (R20), with header word A once it has arrived. -/
structure Judging where
  time : Nat
  purpose : Purpose
  headerA : Option Word
  deriving DecidableEq, Repr

/-- Whether a followed cycle is still good, has been spoiled (the spoiled mark of R58), or has been completed. -/
inductive CycleStatus where
  | running
  | spoiled
  | completed
  deriving DecidableEq, Repr

/-- The cycle whose positions are being counted: an accepted cycle (R30) or a candidate (R24). `pos` is the position of
its last item, `sum` the cycle check over what has arrived (R12), `checkFault` a slot check that was no WORD (R31), and
`net` the net check change (R58). -/
structure Cycle where
  accepted : Bool
  number : Word
  kind : CycleKind
  slots : Nat
  pos : Nat
  sum : Word
  checkFault : Bool
  status : CycleStatus
  net : Word
  deriving DecidableEq, Repr

/-- The framer (R19, R27): `failures` is F and `position` is k. -/
structure Framer where
  acquisition : Acquisition
  reference : Option Nat
  slotCount : Option Nat
  last : Option Marker
  failures : Nat
  position : Nat
  acceptedCount : Word
  candidate : Option Candidate
  judging : Option Judging
  cycle : Option Cycle
  now : Nat
  deriving DecidableEq, Repr

/-! Slot plan (R40, R41) -/

/-- The source word of a FILL entry (R18). -/
inductive Source where
  | inputs
  | outputs
  | status
  | queues
  deriving DecidableEq, Repr

/-- The class of an OFFER entry (R134). -/
inductive OfferClass where
  | any
  | reply
  | event
  deriving DecidableEq, Repr

/-- A plan entry with the fields its action uses (R41). A word index 0 to 5 stands for payload word 1 to 6. -/
inductive Entry where
  | pass
  | take (word : Fin 6) (release : Bool)
  | fill (word : Fin 6) (source : Source)
  | offer (cls : OfferClass)
  | manage (release : Bool)
  deriving DecidableEq, Repr

/-- Bank 0 or bank 1. -/
inductive Bank where
  | zero
  | one
  deriving DecidableEq, Repr

/-- The slot plan (R40). Entries 0 to 63 of a bank are its half A, entries 64 to 127 its half B (R44). -/
structure Plan where
  bank0 : Vector Entry 128
  bank1 : Vector Entry 128
  active : Bank
  commit : Option Word
  deriving DecidableEq, Repr

/-! Slot engine (R58, R71) -/

/-- An entry of the held list (R71). -/
structure HeldEntry where
  slot : Nat
  code : Byte
  call : Call
  deriving DecidableEq, Repr

/-- The slot engine: the held list, and the six payload words the return path last handed over (R68). The staging is
held with the channels, the net check change and the spoiled mark with the cycle. -/
structure Engine where
  held : List HeldEntry
  handover : Option (Vector Word 6)
  deriving DecidableEq, Repr

/-! Output channels (R80) -/

/-- Whether a channel follows its pattern or a fixed level. -/
inductive LevelSource where
  | pattern
  | fixed
  deriving DecidableEq, Repr

/-- A channel configuration (R81). -/
structure ChannelConfig where
  enable : Bool
  source : LevelSource
  level : Bool
  invert : Bool
  deriving DecidableEq, Repr

/-- A channel's safe level (R81). -/
inductive GuardMode where
  | none
  | float
  | low
  | high
  deriving DecidableEq, Repr

/-- One output channel (R80). -/
structure Channel where
  config : ChannelConfig
  pending : Option ChannelConfig
  guardMode : GuardMode
  staged : Option Bool
  ready : Option Bool
  applied : Bool
  held : Bool
  deriving DecidableEq, Repr

/-- What an output pin drives (R92). -/
inductive Drive where
  | floating
  | low
  | high
  deriving DecidableEq, Repr

/-! Output guard (R97) -/

/-- Guard state. -/
inductive GuardState where
  | normal
  | tripped
  deriving DecidableEq, Repr

/-- A cause of the guard. -/
inductive Cause where
  | start
  | reset
  | line
  | link
  | command
  deriving DecidableEq, Repr

/-- The output guard: state, cause set (one place per cause, R17), trip record. -/
structure Guard where
  state : GuardState
  causes : BitVec 5
  tripCycle : Word
  tripCause : Cause
  deriving DecidableEq, Repr

/-! Input sampler (R115) -/

/-- What the sampler holds for one input. -/
structure InputLine where
  lastRaw : Option Bool
  run : Nat
  qualified : Bool
  changed : Bool
  deriving DecidableEq, Repr

/-- The input sampler. -/
structure Sampler where
  first : Bool
  lines : Vector InputLine 8
  deriving DecidableEq, Repr

/-! Return path (R129) and command agent (R153) -/

/-- The outcome of an executed command (R16, R160). -/
inductive Result where
  | done
  | unknown
  | range
  | locked
  | pending
  | notPending
  | busy
  | notTripped
  | causePresent
  deriving DecidableEq, Repr

/-- The content of a REPLY (R16, R160). -/
structure Reply where
  tag : Byte
  code : Byte
  result : Result
  d0 : Word
  d1 : Word
  d2 : Word
  deriving DecidableEq, Repr

/-- The content of an EVENT (R16, R122). -/
structure Event where
  cycle : Word
  levels : Byte
  rising : Byte
  falling : Byte
  deriving DecidableEq, Repr

/-- The alert kinds (R17). -/
inductive AlertKind where
  | lockGained
  | linkLost
  | planCommitted
  | guardTripped
  | guardCleared
  | returnAbandoned
  deriving DecidableEq, Repr

/-- The content of an ALERT (R17). -/
structure Alert where
  kind : AlertKind
  cycle : Word
  d0 : Word
  d1 : Word
  deriving DecidableEq, Repr

/-- A record waiting in the event queue (R131). An OVERFLOW holds no content while it waits (R126). -/
inductive Waiting where
  | event (e : Event)
  | alert (a : Alert)
  | overflow
  deriving DecidableEq, Repr

/-- The record kinds (R15). -/
inductive RecordKind where
  | reply
  | event
  | alert
  | overflow
  deriving DecidableEq, Repr

/-- An entry of the in-flight list (R133): payload words 2 to 6 as first sent, and what the sendings gave it. -/
structure Sent where
  kind : RecordKind
  content : Vector Word 5
  seq : Byte
  first : Bool
  lastSend : Word
  resends : Nat
  deriving DecidableEq, Repr

/-- The return path. `resendAt` is the resend position, an index of the in-flight list; none when resend mode is off. -/
structure ReturnPath where
  replies : List Reply
  events : List Waiting
  inFlight : List Sent
  nextSeq : Byte
  firstMark : Bool
  resendAt : Option Nat
  lost : Word
  firstLoss : Option Word
  deriving DecidableEq, Repr

/-- The command agent: station address and tag memories. -/
structure Agent where
  address : BitVec 6
  stationTag : Byte
  stored : Option Reply
  groupTag : Byte
  deriving DecidableEq, Repr

/-! Parameters (R174) and counters (R182) -/

/-- The writable parameters: P1 to P8, P16 to P23, P24 to P31, P40. -/
structure Params where
  coastLimit : Word
  quickConfirm : Word
  returnWindow : Word
  retryInterval : Word
  retryLimit : Word
  guardPolarity : Word
  confirmCount : Word
  edgeModes : Word
  channelConfig : Vector Word 8
  guardMode : Vector Word 8
  groups : Word
  deriving DecidableEq, Repr

/-- The seven counts, in the order of their indices. -/
structure Counters where
  missed : Word
  damaged : Word
  collisions : Word
  eventsLost : Word
  resends : Word
  refused : Word
  abandoned : Word
  deriving DecidableEq, Repr

end Sys2Proof.Machine
end

