-- ==== Sys2Proof/Machine/Reset.lean ====
section
/-! DEFINITION. The reset values of every block, from the tables the rules give (R6, R19, R40, R58, R80, R97, R115, R129,
R153, R174, R182). -/

namespace Sys2Proof.Machine

/-- A place of the delay line that leaves unchanged. -/
def plainCell (item : Item) : Cell :=
  ⟨item, none, none, 0, false⟩

/-- The forwarding path at power-up: the transmit port sends IDLE until the first received item has crossed (R3). -/
def forwardAtPowerUp : Forward :=
  ⟨List.replicate Config.latency (plainCell .idle), .idle, []⟩

/-- The framer after a hardware reset (R19); k and the item time: DESIGN CHOICE (log 17, 18). -/
def framerReset : Framer :=
  { acquisition := .hunt, reference := none, slotCount := none, last := none, failures := 0, position := 0
    acceptedCount := 0, candidate := none, judging := none, cycle := none, now := 0 }

/-- Start plan: slot 0 MANAGE with release, slot 1 OFFER ANY, every other slot PASS, in both halves (R43). -/
def startBank : Vector Entry 128 :=
  ((((Vector.replicate 128 Entry.pass).set 0 (.manage true)).set 1 (.offer .any)).set 64 (.manage true)).set 65
    (.offer .any)

/-- The slot plan after any reset (R40). -/
def planReset : Plan :=
  ⟨startBank, startBank, .zero, none⟩

/-- The slot engine after any reset (R58). -/
def engineReset : Engine :=
  ⟨[], none⟩

/-- Off, PATTERN, 0, off (R80). -/
def configReset : ChannelConfig :=
  ⟨false, .pattern, false, false⟩

/-- A channel after any reset (R80). -/
def channelReset : Channel :=
  ⟨configReset, none, .none, none, none, false, false⟩

/-- All eight channels after any reset. -/
def channelsReset : Vector Channel 8 :=
  Vector.replicate 8 channelReset

/-- The place of a cause in a cause set (R17). -/
def causePlace : Cause → Nat
  | .start => 0
  | .reset => 1
  | .line => 2
  | .link => 3
  | .command => 4

/-- The cause set that holds one cause. -/
def causeAlone (c : Cause) : BitVec 5 :=
  1#5 <<< causePlace c

/-- The guard after a hardware reset (R107). -/
def guardReset : Guard :=
  ⟨.tripped, causeAlone .start, 0, .start⟩

/-- An input after any reset (R115). -/
def inputReset : InputLine :=
  ⟨none, 0, false, false⟩

/-- The sampler after any reset (R115). -/
def samplerReset : Sampler :=
  ⟨true, Vector.replicate 8 inputReset⟩

/-- The return path after any reset (R129). -/
def returnReset : ReturnPath :=
  { replies := [], events := [], inFlight := [], nextSeq := 0, firstMark := true, resendAt := none, lost := 0
    firstLoss := none }

/-- The defaults of the parameters (R174). -/
def paramsReset : Params :=
  { coastLimit := 3, quickConfirm := 0, returnWindow := 4, retryInterval := 32, retryLimit := 8, guardPolarity := 0
    confirmCount := 2, edgeModes := 0, channelConfig := Vector.replicate 8 0, guardMode := Vector.replicate 8 0
    groups := 0 }

/-- All counts 0 (R184). -/
def countersReset : Counters :=
  ⟨0, 0, 0, 0, 0, 0, 0⟩

/-- The station address: the straps as a number, plus 1 (R6). -/
def addressOf (straps : BitVec 5) : BitVec 6 :=
  straps.setWidth 6 + 1

end Sys2Proof.Machine
end

