-- ==== Sys2Proof/Machine/State.lean ====
section
/-! DEFINITION. The state of the station: everything spec/ gives it, and the queue of waiting commands; its value after a
hardware reset; the reasons a step can stop. -/

namespace Sys2Proof.Machine

/-- The station. `powerHold` is the power-on hold of R3; `choice` counts the uses of the free orders (log 7, 8);
`pending` is the queue of waiting commands, first in, first out. -/
structure State where
  fwd : Forward
  pins : Pins
  powerHold : Bool
  framer : Framer
  plan : Plan
  engine : Engine
  channels : Vector Channel 8
  guard : Guard
  sampler : Sampler
  ret : ReturnPath
  agent : Agent
  params : Params
  flags : Word
  counters : Counters
  choice : Nat
  pending : List Instr
  deriving DecidableEq, Repr

/-- The station stops with no fault: the spec names none. -/
inductive Fault where
  deriving DecidableEq, Repr

/-- Why a command has no meaning. -/
inductive Refusal where
  /-- Raised by an arm of exec whose command has no meaning yet; safe. No arm raises it: every row has its meaning. -/
  | notModelled (mnemonic : String)
  deriving DecidableEq, Repr

/-- The station right after a hardware reset (R6), with an empty delay line behind it (R3). Pin levels and straps are a
DESIGN CHOICE (log 6): GUARD at its inactive level, inputs low, straps 0. -/
def State.reset : State :=
  { fwd := forwardAtPowerUp
    pins := ⟨false, true, 0, 0⟩
    powerHold := false
    framer := framerReset
    plan := planReset
    engine := engineReset
    channels := channelsReset
    guard := guardReset
    sampler := samplerReset
    ret := returnReset
    agent := ⟨addressOf 0, 0, none, 0⟩
    params := paramsReset
    flags := 0
    counters := countersReset
    choice := 0
    pending := [] }

/-- The blocks are held in reset: the reset pin is asserted, or the power-on hold stands in for it (R3, R5). -/
def State.inReset (s : State) : Bool :=
  s.pins.resetLow || s.powerHold

/-- The state with `fwd` replaced. -/
def State.putFwd (s : State) (v : Forward) : State :=
  { s with fwd := v }

/-- The state with `pins` replaced. -/
def State.putPins (s : State) (v : Pins) : State :=
  { s with pins := v }

/-- The state with `powerHold` replaced. -/
def State.putPowerHold (s : State) (v : Bool) : State :=
  { s with powerHold := v }

/-- The state with `framer` replaced. -/
def State.putFramer (s : State) (v : Framer) : State :=
  { s with framer := v }

/-- The state with `plan` replaced. -/
def State.putPlan (s : State) (v : Plan) : State :=
  { s with plan := v }

/-- The state with `engine` replaced. -/
def State.putEngine (s : State) (v : Engine) : State :=
  { s with engine := v }

/-- The state with `channels` replaced. -/
def State.putChannels (s : State) (v : Vector Channel 8) : State :=
  { s with channels := v }

/-- The state with `guard` replaced. -/
def State.putGuard (s : State) (v : Guard) : State :=
  { s with guard := v }

/-- The state with `sampler` replaced. -/
def State.putSampler (s : State) (v : Sampler) : State :=
  { s with sampler := v }

/-- The state with `ret` replaced. -/
def State.putRet (s : State) (v : ReturnPath) : State :=
  { s with ret := v }

/-- The state with `agent` replaced. -/
def State.putAgent (s : State) (v : Agent) : State :=
  { s with agent := v }

/-- The state with `params` replaced. -/
def State.putParams (s : State) (v : Params) : State :=
  { s with params := v }

/-- The state with `flags` replaced. -/
def State.putFlags (s : State) (v : Word) : State :=
  { s with flags := v }

/-- The state with `counters` replaced. -/
def State.putCounters (s : State) (v : Counters) : State :=
  { s with counters := v }

/-- The state with `choice` replaced. -/
def State.putChoice (s : State) (v : Nat) : State :=
  { s with choice := v }

/-- The state with `pending` replaced. -/
def State.putPending (s : State) (v : List Instr) : State :=
  { s with pending := v }

end Sys2Proof.Machine
end

