-- ==== Sys2Proof/Machine/Flags.lean ====
section
/-! DEFINITION. The status flags (R18, R178) and the counters (R182): every change of either goes through here. -/

namespace Sys2Proof.Machine

/-- The fourteen status flags, in the order of the STATUS word (R18). -/
inductive Flag where
  | wordFault
  | slotDamaged
  | badTrailer
  | strayMarker
  | collision
  | emptyTake
  | latePattern
  | replyFull
  | groupRefused
  | duplicate
  | ackStray
  | eventLost
  | alertLost
  | returnAbandoned
  deriving DecidableEq, Repr

/-- The place of a flag in the STATUS word (R18). -/
def flagPlace : Flag → Nat
  | .wordFault => 0
  | .slotDamaged => 1
  | .badTrailer => 2
  | .strayMarker => 3
  | .collision => 4
  | .emptyTake => 5
  | .latePattern => 6
  | .replyFull => 7
  | .groupRefused => 8
  | .duplicate => 9
  | .ackStray => 10
  | .eventLost => 11
  | .alertLost => 12
  | .returnAbandoned => 13

/-- The word with one flag's place 1. -/
def flagWord (f : Flag) : Word :=
  1#16 <<< flagPlace f

/-- Whether a flag is set in a STATUS word. -/
def hasFlag (flags : Word) (f : Flag) : Bool :=
  flags.getLsbD (flagPlace f)

/-- Set a flag; one already set stays set (R178). -/
def setFlag (f : Flag) (s : State) : State :=
  s.putFlags (s.flags ||| flagWord f)

/-- Set a flag where a condition holds. -/
def setFlagIf (b : Bool) (f : Flag) (s : State) : State :=
  if b then setFlag f s else s

/-- Clear the flags a word names (R166). -/
def clearFlags (named : Word) (s : State) : State :=
  s.putFlags (s.flags &&& ~~~named)

/-- An increase that stops at 65535 (R182). -/
def addSaturating (w : Word) (n : Nat) : Word :=
  if w.toNat + n ≤ 65535 then w + BitVec.ofNat 16 n else 65535

/-- MISSED + 1 (R38). -/
def countMissed (s : State) : State :=
  s.putCounters { s.counters with missed := addSaturating s.counters.missed 1 }

/-- DAMAGED + 1 (R61). -/
def countDamaged (s : State) : State :=
  s.putCounters { s.counters with damaged := addSaturating s.counters.damaged 1 }

/-- COLLISIONS + 1 (R67). -/
def countCollision (s : State) : State :=
  s.putCounters { s.counters with collisions := addSaturating s.counters.collisions 1 }

/-- EVENTS-LOST + 1 (R124). -/
def countEventLost (s : State) : State :=
  s.putCounters { s.counters with eventsLost := addSaturating s.counters.eventsLost 1 }

/-- RESENDS + 1 (R136). -/
def countResend (s : State) : State :=
  s.putCounters { s.counters with resends := addSaturating s.counters.resends 1 }

/-- REFUSED + 1 (R155, R159). -/
def countRefused (s : State) : State :=
  s.putCounters { s.counters with refused := addSaturating s.counters.refused 1 }

/-- ABANDONED + the number of entries discarded (R140). -/
def countAbandoned (n : Nat) (s : State) : State :=
  s.putCounters { s.counters with abandoned := addSaturating s.counters.abandoned n }

/-- The counter at an index; an index above 6 reads as 0 (R167). -/
def counterAt (c : Counters) : Nat → Word
  | 0 => c.missed
  | 1 => c.damaged
  | 2 => c.collisions
  | 3 => c.eventsLost
  | 4 => c.resends
  | 5 => c.refused
  | 6 => c.abandoned
  | _ => 0

/-- Set to 0 each counter whose index a word names (R168). -/
def clearCountersNamed (named : Word) (c : Counters) : Counters :=
  { missed := if named.getLsbD 0 then 0 else c.missed
    damaged := if named.getLsbD 1 then 0 else c.damaged
    collisions := if named.getLsbD 2 then 0 else c.collisions
    eventsLost := if named.getLsbD 3 then 0 else c.eventsLost
    resends := if named.getLsbD 4 then 0 else c.resends
    refused := if named.getLsbD 5 then 0 else c.refused
    abandoned := if named.getLsbD 6 then 0 else c.abandoned }

end Sys2Proof.Machine
end

