-- ==== Sys2Proof/Machine/Layout.lean ====
section
/-! DEFINITION. The formats that cross the ring (chapter 1): headers, slots, return records, source words. -/

namespace Sys2Proof.Machine

/-- A byte with one place per channel or input, number 0 lowest (R7). -/
def byteOf (f : Fin 8 → Bool) : Byte :=
  BitVec.ofBool (f 7) ++ BitVec.ofBool (f 6) ++ BitVec.ofBool (f 5) ++ BitVec.ofBool (f 4) ++
    BitVec.ofBool (f 3) ++ BitVec.ofBool (f 2) ++ BitVec.ofBool (f 1) ++ BitVec.ofBool (f 0)

/-- The place of a byte for a channel or input (R7). -/
def placeOf (b : Byte) (i : Fin 8) : Bool :=
  b.getLsbD i.val

/-! The cycle header (R8, R9) -/

/-- The cycle kind of header word B. -/
def headerKind (b : Word) : CycleKind :=
  if b.getLsbD 15 then .b else .a

/-- The slot count S of header word B. -/
def headerSlots (b : Word) : Nat :=
  (b.extractLsb' 8 7).toNat

/-- The low 8 bits of the five-number sum of R9. -/
def headerSum (a b : Word) : Byte :=
  hiByte a + loByte a + (if b.getLsbD 15 then 1 else 0) + BitVec.ofNat 8 (headerSlots b) + 0x5A

/-- The header check is correct and S lies in 1 to 64 (R9, R20). -/
def headerValid (a b : Word) : Bool :=
  headerSum a b == loByte b && decide (1 ≤ headerSlots b) && decide (headerSlots b ≤ 64)

/-! The slot (R10, R11, R62) -/

/-- The eight words of a slot that arrived as WORDs. -/
structure Slot where
  header : Word
  payload : Vector Word 6
  check : Word
  deriving DecidableEq, Repr

/-- The owner field (R10). -/
def slotOwner (header : Word) : BitVec 6 :=
  header.extractLsb' 8 6

/-- The occupancy field: true is HELD (R10). -/
def slotHeld (header : Word) : Bool :=
  header.getLsbD 6

/-- The slot number field (R10). -/
def slotNumber (header : Word) : Nat :=
  (header.extractLsb' 0 6).toNat

/-- A slot header with the spare places 0 (R10). -/
def slotHeader (owner : BitVec 6) (held : Bool) (number : Nat) : Word :=
  0#2 ++ owner ++ 0#1 ++ BitVec.ofBool held ++ BitVec.ofNat 6 number

/-- The sum of words 0 to 6 of a slot, modulo 65536. -/
def slotSum (header : Word) (p : Vector Word 6) : Word :=
  header + p[0] + p[1] + p[2] + p[3] + p[4] + p[5]

/-- The one's complement of the sum (R10). -/
def slotCheck (header : Word) (p : Vector Word 6) : Word :=
  65535 - slotSum header p

/-- Six payload words of 0 (R64). -/
def zeroPayload : Vector Word 6 :=
  Vector.replicate 6 0

/-- The eight items of a slot's positions, if each is a WORD. -/
def slotOfItems : List Item → Option Slot
  | [.word h, .word p1, .word p2, .word p3, .word p4, .word p5, .word p6, .word c] =>
    some ⟨h, #v[p1, p2, p3, p4, p5, p6], c⟩
  | _ => none

/-- A slot of WORDs is damaged: wrong check, or a slot number that is not its position (R11). -/
def slotDamaged (n : Nat) (sl : Slot) : Bool :=
  sl.check != slotCheck sl.header sl.payload || slotNumber sl.header != n

/-! The source words (R18) -/

/-- INPUTS. -/
def inputsWord (sm : Sampler) : Word :=
  wordOf (byteOf fun i => sm.lines[i].changed) (byteOf fun i => sm.lines[i].qualified)

/-- The logical level of a channel (R94). -/
def logicalLevel (c : Channel) : Bool :=
  match c.config.source with
  | .pattern => c.applied
  | .fixed => c.config.level

/-- OUTPUTS. -/
def outputsWord (cs : Vector Channel 8) : Word :=
  wordOf (byteOf fun i => cs[i].held) (byteOf fun i => logicalLevel cs[i])

/-- QUEUES. -/
def queuesWord (r : ReturnPath) : Word :=
  0#3 ++ BitVec.ofNat 4 r.inFlight.length ++ BitVec.ofNat 5 r.events.length ++ BitVec.ofNat 4 r.replies.length

/-- The source word of a FILL entry, from the state at the moment (R18, R66). -/
def sourceWord (src : Source) (s : State) : Word :=
  match src with
  | .inputs => inputsWord s.sampler
  | .outputs => outputsWord s.channels
  | .status => s.flags
  | .queues => queuesWord s.ret

/-! Return records (R15, R16, R17) -/

/-- The result codes (R16). -/
def resultCode : Result → Byte
  | .done => 0
  | .unknown => 1
  | .range => 2
  | .locked => 3
  | .pending => 4
  | .notPending => 5
  | .busy => 6
  | .notTripped => 7
  | .causePresent => 8

/-- The alert codes (R17). -/
def alertCode : AlertKind → Word
  | .lockGained => 1
  | .linkLost => 2
  | .planCommitted => 3
  | .guardTripped => 4
  | .guardCleared => 5
  | .returnAbandoned => 6

/-- The record kind field (R15). -/
def recordCode : RecordKind → BitVec 2
  | .reply => 0
  | .event => 1
  | .alert => 2
  | .overflow => 3

/-- Payload words 2 to 6 of a REPLY (R16). -/
def replyContent (r : Reply) : Vector Word 5 :=
  #v[wordOf 0 r.tag, wordOf (resultCode r.result) r.code, r.d0, r.d1, r.d2]

/-- Payload words 2 to 6 of an EVENT (R16). -/
def eventContent (e : Event) : Vector Word 5 :=
  #v[e.cycle, wordOf 0 e.levels, wordOf 0 e.rising, wordOf 0 e.falling, 0]

/-- Payload words 2 to 6 of an ALERT (R17). -/
def alertContent (a : Alert) : Vector Word 5 :=
  #v[alertCode a.kind, a.cycle, a.d0, a.d1, 0]

/-- Payload words 2 to 6 of an OVERFLOW (R16, R126). -/
def overflowContent (lost firstLoss : Word) : Vector Word 5 :=
  #v[lost, firstLoss, 0, 0, 0]

/-- Payload word 1 of a return record (R15). -/
def recordWord (resent first : Bool) (kind : RecordKind) (seq : Byte) : Word :=
  0#4 ++ BitVec.ofBool resent ++ BitVec.ofBool first ++ recordCode kind ++ seq

/-- The six payload words of a sending (R15 to R17). -/
def recordPayload (resent : Bool) (e : Sent) : Vector Word 6 :=
  #v[recordWord resent e.first e.kind e.seq, e.content[0], e.content[1], e.content[2], e.content[3], e.content[4]]

/-! Cause sets and bank numbers (R17) -/

/-- A cause set in one word (R17). -/
def causeWord (c : BitVec 5) : Word :=
  c.setWidth 16

/-- The number of a bank. -/
def bankNumber : Bank → Word
  | .zero => 0
  | .one => 1

/-- The bank the selector does not name (R40). -/
def otherBank : Bank → Bank
  | .zero => .one
  | .one => .zero

end Sys2Proof.Machine
end

