-- ==== Sys2Proof/Machine/Operands.lean ====
section
/-! DEFINITION. What the arguments of commands name: command records and kinds (R13), destinations (R70), plan entries
(R44), parameters (R174), pattern words (R14). -/

namespace Sys2Proof.Machine

/-! Command records (R13) -/

/-- The command kinds. -/
inductive CommandKind where
  | echo
  | readParam
  | writeParam
  | readEntry
  | writeEntry
  | copyActive
  | commit
  | cancelCommit
  | readStatus
  | clearStatus
  | readCounters
  | clearCounters
  | acknowledge
  | guardTrip
  | guardClear
  | resetStation
  | unknown
  deriving DecidableEq, Repr

/-- The kind of a command kind code (R13). -/
def kindOf (code : Byte) : CommandKind :=
  match code.toNat with
  | 1 => .echo
  | 2 => .readParam
  | 3 => .writeParam
  | 4 => .readEntry
  | 5 => .writeEntry
  | 6 => .copyActive
  | 7 => .commit
  | 8 => .cancelCommit
  | 9 => .readStatus
  | 10 => .clearStatus
  | 11 => .readCounters
  | 12 => .clearCounters
  | 13 => .acknowledge
  | 14 => .guardTrip
  | 15 => .guardClear
  | 16 => .resetStation
  | _ => .unknown

/-- The kinds a group or all-stations command may carry (R152). -/
def groupAllowed : CommandKind → Bool
  | .writeParam | .writeEntry | .copyActive | .commit | .cancelCommit | .clearStatus | .clearCounters
  | .guardTrip | .guardClear | .resetStation => true
  | .echo | .readParam | .readEntry | .readStatus | .readCounters | .acknowledge | .unknown => false

/-- The destination type of a command record's destination field; none for a record that does not concern the station
or whose destination is invalid (R70). -/
def destinationType (address : BitVec 6) (groups : Word) (destination : BitVec 6) : Option DestType :=
  if 1 ≤ destination.toNat ∧ destination.toNat ≤ 32 then
    if destination = address then some .single else none
  else if 33 ≤ destination.toNat ∧ destination.toNat ≤ 48 then
    if groups.getLsbD (destination.toNat - 33) then some .group else none
  else if destination.toNat = 63 then some .all
  else none

/-- The destination field of payload word 1 (R13). -/
def recordDestination (p : Vector Word 6) : BitVec 6 :=
  p[0].extractLsb' 0 6

/-- The held-list entry of a command record collected from a slot (R13, R71). -/
def heldEntryOf (slot : Nat) (dest : DestType) (p : Vector Word 6) : HeldEntry :=
  ⟨slot, hiByte p[0], ⟨dest, loByte p[1], p[2], p[3], p[4], p[5]⟩⟩

/-! Plan entries (R44) -/

/-- A payload word index argument, 1 to 6. -/
def payloadIndex (w : Word) : Option (Fin 6) :=
  if h : 1 ≤ w.toNat ∧ w.toNat ≤ 6 then some ⟨w.toNat - 1, by omega⟩ else none

/-- An option argument 0 = no release, 1 = release. -/
def releaseOption (w : Word) : Option Bool :=
  if w = 0 then some false else if w = 1 then some true else none

/-- The source an option argument names. -/
def sourceOption (w : Word) : Option Source :=
  if w = 1 then some .inputs else if w = 2 then some .outputs else if w = 3 then some .status
  else if w = 4 then some .queues else none

/-- The class an option argument names. -/
def classOption (w : Word) : Option OfferClass :=
  if w = 1 then some .any else if w = 2 then some .reply else if w = 3 then some .event else none

/-- The entry the arguments a1, a2, a3 of WRITE-ENTRY give, if a row of R44 admits them. -/
def entryOfArgs (a1 a2 a3 : Word) : Option Entry :=
  if a1 = 0 then (if a2 = 0 ∧ a3 = 0 then some .pass else none)
  else if a1 = 1 then
    match payloadIndex a2, releaseOption a3 with
    | some w, some r => some (.take w r)
    | _, _ => none
  else if a1 = 2 then
    match payloadIndex a2, sourceOption a3 with
    | some w, some src => some (.fill w src)
    | _, _ => none
  else if a1 = 3 then
    match (if a2 = 0 then classOption a3 else none) with
    | some c => some (.offer c)
    | none => none
  else if a1 = 4 then
    match (if a2 = 0 then releaseOption a3 else none) with
    | some r => some (.manage r)
    | none => none
  else none

/-- The action code of an entry (R44). -/
def actionCode : Entry → Word
  | .pass => 0
  | .take _ _ => 1
  | .fill _ _ => 2
  | .offer _ => 3
  | .manage _ => 4

/-- The word index of an entry, 0 where the action uses none (R47). -/
def wordCode : Entry → Word
  | .pass => 0
  | .take w _ => BitVec.ofNat 16 (w.val + 1)
  | .fill w _ => BitVec.ofNat 16 (w.val + 1)
  | .offer _ => 0
  | .manage _ => 0

/-- The code of a release option. -/
def releaseCode (r : Bool) : Word :=
  if r then 1 else 0

/-- The code of a source. -/
def sourceCode : Source → Word
  | .inputs => 1
  | .outputs => 2
  | .status => 3
  | .queues => 4

/-- The code of a class. -/
def classCode : OfferClass → Word
  | .any => 1
  | .reply => 2
  | .event => 3

/-- The option value of an entry, 0 for PASS (R47). -/
def optionCode : Entry → Word
  | .pass => 0
  | .take _ r => releaseCode r
  | .fill _ src => sourceCode src
  | .offer c => classCode c
  | .manage r => releaseCode r

/-! Parameters (R174) -/

/-- The parameters of the table. -/
inductive Param where
  | coastLimit
  | quickConfirm
  | returnWindow
  | retryInterval
  | retryLimit
  | guardPolarity
  | confirmCount
  | edgeModes
  | channelConfig (c : Fin 8)
  | guardMode (c : Fin 8)
  | groups
  | address
  | identity
  | revision
  deriving DecidableEq, Repr

/-- The parameter a number names; none for a number outside the table (R174). -/
def paramOf (number : Word) : Option Param :=
  let n := number.toNat
  if n = 1 then some .coastLimit
  else if n = 2 then some .quickConfirm
  else if n = 3 then some .returnWindow
  else if n = 4 then some .retryInterval
  else if n = 5 then some .retryLimit
  else if n = 6 then some .guardPolarity
  else if n = 7 then some .confirmCount
  else if n = 8 then some .edgeModes
  else if h : 16 ≤ n ∧ n ≤ 23 then some (.channelConfig ⟨n - 16, by omega⟩)
  else if h : 24 ≤ n ∧ n ≤ 31 then some (.guardMode ⟨n - 24, by omega⟩)
  else if n = 40 then some .groups
  else if n = 60 then some .address
  else if n = 61 then some .identity
  else if n = 62 then some .revision
  else none

/-- The value a parameter holds (R163). -/
def paramValue (p : Param) (s : State) : Word :=
  match p with
  | .coastLimit => s.params.coastLimit
  | .quickConfirm => s.params.quickConfirm
  | .returnWindow => s.params.returnWindow
  | .retryInterval => s.params.retryInterval
  | .retryLimit => s.params.retryLimit
  | .guardPolarity => s.params.guardPolarity
  | .confirmCount => s.params.confirmCount
  | .edgeModes => s.params.edgeModes
  | .channelConfig c => s.params.channelConfig[c]
  | .guardMode c => s.params.guardMode[c]
  | .groups => s.params.groups
  | .address => s.agent.address.setWidth 16
  | .identity => Config.identity
  | .revision => Config.revision

/-- The read-only parameters (R164). -/
def paramReadOnly : Param → Bool
  | .address | .identity | .revision => true
  | _ => false

/-- Whether a value lies in a parameter's range (R174). -/
def paramAdmits (p : Param) (v : Word) : Bool :=
  match p with
  | .coastLimit => decide (1 ≤ v.toNat ∧ v.toNat ≤ 15)
  | .quickConfirm => decide (v.toNat ≤ 1)
  | .returnWindow => decide (1 ≤ v.toNat ∧ v.toNat ≤ 8)
  | .retryInterval => decide (4 ≤ v.toNat ∧ v.toNat ≤ 255)
  | .retryLimit => decide (1 ≤ v.toNat ∧ v.toNat ≤ 15)
  | .guardPolarity => decide (v.toNat ≤ 1)
  | .confirmCount => decide (1 ≤ v.toNat ∧ v.toNat ≤ 4)
  | .edgeModes => true
  | .channelConfig _ => decide (v.toNat ≤ 15)
  | .guardMode _ => decide (v.toNat ≤ 3)
  | .groups => true
  | .address | .identity | .revision => false

/-- The configuration a configuration parameter's value selects (R81). -/
def configOf (v : Word) : ChannelConfig :=
  ⟨v.getLsbD 0, if v.getLsbD 1 then .fixed else .pattern, v.getLsbD 2, v.getLsbD 3⟩

/-- The guard mode a guard-mode parameter's value selects (R81). -/
def guardModeOf (v : Word) : GuardMode :=
  if v = 1 then .float else if v = 2 then .low else if v = 3 then .high else .none

/-- The edge mode of input i: bit 0 says rising edges count, bit 1 falling edges (R120: 1 RISE, 2 FALL, 3 BOTH). -/
def edgeModeOf (v : Word) (i : Fin 8) : BitVec 2 :=
  v.extractLsb' (2 * i.val) 2

/-- The level a pattern word stages for a channel, if its mask names the channel (R14, R63). -/
def patternLevel (w : Word) (c : Fin 8) : Option Bool :=
  if w.getLsbD (8 + c.val) then some (w.getLsbD c.val) else none

end Sys2Proof.Machine
end

