-- ==== Sys2Proof/Machine/Ops.lean ====
section
/-! DEFINITION. The operations several blocks share: the event queue's admission (R131), guard trips (R99, R100), the
GUARD pin (R103), the free orders of records queued at one moment. -/

namespace Sys2Proof.Machine

/-- The last accepted cycle number, 0 if there is none (R19, R101). -/
def lastNumber (s : State) : Word :=
  match s.framer.last with
  | some m => m.number
  | none => 0

/-! The event queue (R123 to R125, R131) -/

/-- Hand an ALERT to the event queue: admitted below 16 records, else lost with ALERT-LOST (R131). -/
def queueAlert (a : Alert) (s : State) : State :=
  if s.ret.events.length < Config.eventPlaces then
    s.putRet { s.ret with events := s.ret.events ++ [.alert a] }
  else setFlag .alertLost s

/-- The lost-event count and first-loss cycle after a loss (R124). -/
def recordLoss (cycle : Word) (s : State) : State :=
  s.putRet { s.ret with
    lost := addSaturating s.ret.lost 1
    firstLoss := if s.ret.lost = 0 then some cycle else s.ret.firstLoss }

/-- Queue an OVERFLOW if none is waiting and the queue holds fewer than 16 records (R125). -/
def queueOverflow (s : State) : State :=
  if Waiting.overflow ∉ s.ret.events ∧ s.ret.events.length < Config.eventPlaces then
    s.putRet { s.ret with events := s.ret.events ++ [.overflow] }
  else s

/-- Hand an EVENT to the event queue: admitted below 14 records (R123), else lost (R124, R125). -/
def queueEvent (e : Event) (s : State) : State :=
  if s.ret.events.length < Config.eventLimit then
    s.putRet { s.ret with events := s.ret.events ++ [.event e] }
  else queueOverflow (countEventLost (setFlag .eventLost (recordLoss e.cycle s)))

/-- A record a block raises. -/
inductive Raised where
  | event (e : Event)
  | alert (a : Alert)
  deriving DecidableEq, Repr

/-- Hand one raised record to the event queue. -/
def queueRaised (r : Raised) (s : State) : State :=
  match r with
  | .event e => queueEvent e s
  | .alert a => queueAlert a s

/-- Hand raised records to the event queue one after another. -/
def queueAll (rs : List Raised) (s : State) : State :=
  rs.foldl (fun s r => queueRaised r s) s

/-- A list with one element put at a place. -/
def insertAt {α : Type} : List α → Nat → α → List α
  | [], _, x => [x]
  | y :: ys, n, x => if n = 0 then x :: y :: ys else y :: insertAt ys (n - 1) x

/-- The permutation of a list that a number stands for; every permutation has a number. -/
def arrange {α : Type} : List α → Nat → List α
  | [], _ => []
  | x :: xs, n => insertAt (arrange xs (n / (xs.length + 1))) (n % (xs.length + 1)) x

/-! The guard (R98 to R102) -/

/-- The GUARD pin is at its active level under a polarity: low for 0, high for 1 (R103). -/
def pinActive (high : Bool) (polarity : Word) : Bool :=
  if polarity = 0 then !high else high

/-- LINE is present (R98). -/
def linePresent (s : State) : Bool :=
  pinActive s.pins.guardHigh s.params.guardPolarity

/-- LINK is present: the framer reports the link absent (R37, R98). -/
def linkPresent (s : State) : Bool :=
  s.framer.acquisition == .hunt || s.framer.acquisition == .confirm

/-- The present causes in cause-set form (R98). -/
def presentCauses (s : State) : BitVec 5 :=
  (if linePresent s then causeAlone .line else 0) ||| (if linkPresent s then causeAlone .link else 0)

/-- HELD set on every channel whose guard mode is not NONE (R88). -/
def holdChannels (cs : Vector Channel 8) : Vector Channel 8 :=
  Vector.ofFn fun i => if cs[i].guardMode = .none then cs[i] else { cs[i] with held := true }

/-- A trip of the guard: from NORMAL by R99 with its alert (R102), while TRIPPED by R100. -/
def trip (c : Cause) (s : State) : State :=
  match s.guard.state with
  | .normal =>
    queueAlert ⟨.guardTripped, lastNumber s, causeWord (causeAlone c), 0⟩
      ((s.putGuard ⟨.tripped, causeAlone c, lastNumber s, c⟩).putChannels (holdChannels s.channels))
  | .tripped => s.putGuard { s.guard with causes := s.guard.causes ||| causeAlone c }

/-- The GUARD pin takes a level. A change to the active level is a LINE trip, but not while the blocks are held in reset
(R5, R103). -/
def setGuardPin (high : Bool) (s : State) : State :=
  let t := s.putPins { s.pins with guardHigh := high }
  if !s.inReset && !linePresent s && linePresent t then trip .line t else t

/-- The GUARD pin changes its level. -/
def toggleGuardPin (s : State) : State :=
  setGuardPin (!s.pins.guardHigh) s

/-! What falls amid the work on one item (R111, R132, R154, R173, R180; log 10, 23) -/

/-- One such event is taken. Of a FAULT item this is its WORD-FAULT, all that a part of the work can see of it (R183); the
item itself follows as a whole once the work is done (log 23). -/
def takeAmid (s : State) (a : Amid) : State :=
  match a with
  | .guardChange => toggleGuardPin s
  | .fault => if s.inReset then s else setFlag .wordFault s

/-- Several of them, one after another. -/
def takeAmids (as : List Amid) (s : State) : State :=
  as.foldl takeAmid s

/-- Parts of one work in their order, with what falls before each of them and after the last. -/
def interleave : List (State → State) → List (List Amid) → State → State
  | [], amid, s => takeAmids amid.flatten s
  | f :: fs, amid, s => interleave fs amid.tail (f (takeAmids (amid.headD []) s))

/-- Hand the records raised at one accepted marker to the event queue, in the free order (R26, R52, R132; log 7). -/
def queueAtMarker (amid : List (List Amid)) (rs : List Raised) (s : State) : State :=
  interleave ((arrange rs (Config.arrivalOrder s.choice)).map queueRaised) amid (s.putChoice (s.choice + 1))

end Sys2Proof.Machine
end

