-- ==== Sys2Proof/Machine/Channels.lean ====
section
/-! DEFINITION. The output channels (chapter 5): staging, ready levels, the apply instant, the pin drive. -/

namespace Sys2Proof.Machine

/-- The channels with one function applied to each. -/
def mapChannels (f : Channel → Channel) (cs : Vector Channel 8) : Vector Channel 8 :=
  Vector.ofFn fun i => f cs[i]

/-- A pattern word read by a TAKE entry is staged; a channel its mask leaves out keeps its staging (R63). -/
def stagePattern (w : Word) (cs : Vector Channel 8) : Vector Channel 8 :=
  Vector.ofFn fun i =>
    match patternLevel w i with
    | some level => { cs[i] with staged := some level }
    | none => cs[i]

/-- Every staged level is discarded (R58, R76). -/
def dropStaging (cs : Vector Channel 8) : Vector Channel 8 :=
  mapChannels (fun c => { c with staged := none }) cs

/-- Each staged level becomes a ready level; a channel without one keeps what it has (R74, R84). -/
def makeReady (cs : Vector Channel 8) : Vector Channel 8 :=
  mapChannels (fun c => { c with ready := if c.staged.isSome then c.staged else c.ready, staged := none }) cs

/-- Some channel holds a ready level. -/
def anyReady (cs : Vector Channel 8) : Bool :=
  cs[0].ready.isSome || cs[1].ready.isSome || cs[2].ready.isSome || cs[3].ready.isSome ||
    cs[4].ready.isSome || cs[5].ready.isSome || cs[6].ready.isSome || cs[7].ready.isSome

/-- Every ready level is discarded, and LATE-PATTERN set if there was one (R86). -/
def discardReady (s : State) : State :=
  setFlagIf (anyReady s.channels) .latePattern
    (s.putChannels (mapChannels (fun c => { c with ready := none }) s.channels))

/-- The apply instant of one channel: configuration, level, release (R85, R89, R90). -/
def applyChannel (guard : GuardState) (c : Channel) : Channel :=
  let config := c.pending.getD c.config
  let released := guard = .normal ∧ (config.source = .fixed ∨ c.ready.isSome)
  { c with
    config := config
    pending := none
    applied := c.ready.getD c.applied
    ready := none
    held := if released then false else c.held }

/-- The apply instant (R85). -/
def applyInstant (s : State) : State :=
  s.putChannels (mapChannels (applyChannel s.guard.state) s.channels)

/-- The level a driving pin takes. -/
def driveLevel (high : Bool) : Drive :=
  if high then .high else .low

/-- What the pin of a channel drives (R92). -/
def pinDrive (s : State) (i : Fin 8) : Drive :=
  let c := s.channels[i]
  if s.inReset then .floating
  else if !c.config.enable then .floating
  else if c.held && c.guardMode != .none then
    match c.guardMode with
    | .low => .low
    | .high => .high
    | .float | .none => .floating
  else driveLevel (logicalLevel c != c.config.invert)

end Sys2Proof.Machine
end

