-- ==== Sys2Proof/Machine/Plan.lean ====
section
/-! DEFINITION. The slot plan (chapter 3): entries, the commit test and the swap. -/

namespace Sys2Proof.Machine

/-- A bank's entries. -/
def bankOf (b : Bank) (p : Plan) : Vector Entry 128 :=
  match b with
  | .zero => p.bank0
  | .one => p.bank1

/-- A bank's entries replaced. -/
def putBank (b : Bank) (entries : Vector Entry 128) (p : Plan) : Plan :=
  match b with
  | .zero => { p with bank0 := entries }
  | .one => { p with bank1 := entries }

/-- The standby bank (R40). -/
def standby (p : Plan) : Bank :=
  otherBank p.active

/-- The index of a slot's entry: the slot number in half A, 64 more in half B (R44). -/
def entryIndex (kind : CycleKind) (n : Nat) : Nat :=
  match kind with
  | .a => n
  | .b => n + 64

/-- The entry of the active bank that steers slot n of a cycle of a kind (R42). -/
def activeEntry (kind : CycleKind) (n : Nat) (p : Plan) : Entry :=
  ((bankOf p.active p)[entryIndex kind n]?).getD .pass

/-- A marker's number is at or after a target (R51). -/
def atOrAfter (number target : Word) : Bool :=
  decide ((number - target).toNat ≤ 32767)

/-- The comparison at an accepted marker, and the swap (R51): the state after it and the PLAN-COMMITTED alert (R52). -/
def commitTest (number : Word) (s : State) : State × List Raised :=
  match s.plan.commit with
  | none => (s, [])
  | some target =>
    if atOrAfter number target then
      let active := standby s.plan
      (s.putPlan { s.plan with active := active, commit := none },
        [.alert ⟨.planCommitted, number, bankNumber active, target⟩])
    else (s, [])

end Sys2Proof.Machine
end

