-- ==== Sys2Proof/Machine/Forward.lean ====
section
/-! DEFINITION. The forwarding path: the delay line of 12 item times, the rewriting of a slot in it (R62), the trailer
adjustment (R73), and what the assertion of the reset pin leaves of both (R4). -/

namespace Sys2Proof.Machine

/-- The item a place of the delay line leaves as (R2, R4, R62, R73). -/
def leavingItem (c : Cell) : Item :=
  match c.arrived with
  | .word v => .word (c.rewritten.getD v + c.adjust)
  | other => other

/-- One item time passes for a kept trailer: the kept ones still to come, and the change due at this item (R4). -/
def passKept : List KeptTrailer → List KeptTrailer × Word
  | [] => ([], 0)
  | k :: ks =>
    let (rest, due) := passKept ks
    if k.after ≤ 1 then (rest, due + k.change) else (⟨k.after - 1, k.change⟩ :: rest, due)

/-- One item arrives and the item that arrived 12 item times before leaves (R2). -/
def forwardItem (item : Item) (f : Forward) : Forward :=
  let (kept, due) := passKept f.kept
  let cell : Cell := ⟨item, none, none, due, false⟩
  match f.line with
  | [] => ⟨[cell], .idle, kept⟩
  | oldest :: rest => ⟨rest ++ [cell], leavingItem oldest, kept⟩

/-- The items of the last eight places, oldest first: the slot whose check position has just arrived. -/
def lastSlotItems (f : Forward) : List Item :=
  (f.line.drop (f.line.length - 8)).map (·.arrived)

/-- The eight places of a slot take its new words; the first keeps the check change (R62). -/
def rewriteCells (cells : List Cell) (words : List Word) (change : Word) : List Cell :=
  match cells.zip words with
  | [] => []
  | (c, w) :: rest =>
    { c with rewritten := some w, change := some change } :: rest.map fun (c, w) => { c with rewritten := some w }

/-- The slot in the last eight places leaves rewritten (R60, R62). -/
def rewriteSlot (words : List Word) (change : Word) (f : Forward) : Forward :=
  let before := f.line.length - 8
  { f with line := f.line.take before ++ rewriteCells (f.line.drop before) words change }

/-- The slot in the last eight places has been decided to leave rewritten. -/
def lastSlotRewritten (f : Forward) : Bool :=
  match f.line.drop (f.line.length - 8) with
  | [] => false
  | c :: _ => c.change.isSome

/-- The newest place stands at a trailer position and leaves with a net change added (R73). -/
def adjustTrailer (net : Word) (f : Forward) : Forward :=
  match f.line.getLast? with
  | none => f
  | some c => { f with line := f.line.dropLast ++ [{ c with adjust := c.adjust + net, trailer := true }] }

/-- The trailer position of a cycle (R8). -/
def trailerPos (c : Cycle) : Nat :=
  8 * c.slots + 3

/-- Withdraw the rewriting of every slot whose first word has not left. `left` counts the places of such a slot still to
come; `unsent` is the sum of the check changes withdrawn since the last trailer, which the next trailer is no longer
adjusted for (R4, R78). -/
def withdrawCells : List Cell → Nat → Word → List Cell
  | [], _, _ => []
  | c :: cs, left, unsent =>
    match c.change with
    | some d => { c with rewritten := none, change := none } :: withdrawCells cs 7 (unsent + d)
    | none =>
      if 0 < left then { c with rewritten := none } :: withdrawCells cs (left - 1) unsent
      else if c.trailer then { c with adjust := c.adjust - unsent } :: withdrawCells cs 0 0
      else c :: withdrawCells cs 0 unsent

/-- The sum of the check changes of the slots among some places whose first word has not left. -/
def unsentChange (cells : List Cell) : Word :=
  (cells.map fun c => c.change.getD 0).sum

/-- The places of the delay line that hold items of a cycle whose positions are being counted: those from its marker on. -/
def cycleCells (c : Cycle) (f : Forward) : List Cell :=
  f.line.drop (f.line.length - (c.pos + 1))

/-- The reset pin is asserted: a slot that has begun to leave finishes, one that has not leaves unchanged, and the trailer
position of the cycle being counted is kept with the net change of its slots that were sent rewritten (R4, R78). Slots of
earlier cycles have no part in that change. -/
def forwardAtAssertion (cycle : Option Cycle) (f : Forward) : Forward :=
  let line := withdrawCells f.line 0 0
  match cycle with
  | none => { f with line := line }
  | some c =>
    let sent := c.net - unsentChange (cycleCells c f)
    if sent = 0 then { f with line := line }
    else { f with line := line, kept := f.kept ++ [⟨trailerPos c - c.pos, sent⟩] }

end Sys2Proof.Machine
end

