-- ==== Sys2Proof/Machine/ResetOps.lean ====
section
/-! DEFINITION. The resets: assertion and release of the reset pin, power-up (R3 to R6), station reset (R169). -/

namespace Sys2Proof.Machine

/-- Every block but the forwarding path, the parameters and the station address in its hardware-reset state (R5, R6). -/
def holdBlocks (s : State) : State :=
  { s with
    framer := framerReset
    plan := planReset
    engine := engineReset
    channels := channelsReset
    guard := guardReset
    sampler := samplerReset
    ret := returnReset
    agent := ⟨s.agent.address, 0, none, 0⟩
    flags := 0
    counters := countersReset }

/-- The reset pin is asserted (R4, R5, R78, R95). -/
def assertReset (s : State) : State :=
  holdBlocks { s with
    fwd := forwardAtAssertion s.framer.cycle s.fwd
    pins := { s.pins with resetLow := true } }

/-- The release of the reset pin, the later of the two releases after power-up (R3, R6, R107, R176). -/
def releaseReset (straps : BitVec 5) (s : State) : State :=
  let t := holdBlocks s
  { t with
    pins := { t.pins with resetLow := false, straps := straps }
    powerHold := false
    agent := { t.agent with address := addressOf straps }
    params := paramsReset }

/-- Power-up: an empty delay line, and every block held in reset until the supplies are in range (R3). -/
def powerUpState (s : State) : State :=
  let t := holdBlocks s
  { t with fwd := forwardAtPowerUp, powerHold := true, params := paramsReset }

/-- A station reset, without the tag memories (R169): everything but the framer, the address and the forwarding path. -/
def stationReset (s : State) : State :=
  { s with
    plan := planReset
    engine := engineReset
    channels := channelsReset
    guard := ⟨.tripped, causeAlone .reset, lastNumber s, .reset⟩
    sampler := samplerReset
    ret := returnReset
    params := paramsReset
    flags := 0
    counters := countersReset }

end Sys2Proof.Machine
end

