-- ==== Sys2Proof/Machine/ReturnPath.lean ====
section
/-! DEFINITION. The return path (chapter 8): serving an OFFER slot, the retry test, acknowledgement. -/

namespace Sys2Proof.Machine

/-- The kinds a class admits (R134). -/
def classAdmits (cls : OfferClass) (kind : RecordKind) : Bool :=
  match cls, kind with
  | .any, _ => true
  | .reply, .reply => true
  | .reply, _ => false
  | .event, .reply => false
  | .event, _ => true

/-- The kind of a record waiting in the event queue. -/
def waitingKind : Waiting → RecordKind
  | .event _ => .event
  | .alert _ => .alert
  | .overflow => .overflow

/-- The content a waiting record is first sent with; an OVERFLOW is filled now (R126). -/
def waitingContent (r : ReturnPath) : Waiting → Vector Word 5
  | .event e => eventContent e
  | .alert a => alertContent a
  | .overflow => overflowContent r.lost (r.firstLoss.getD 0)

/-- The in-flight entry of a first sending (R135). -/
def firstSending (kind : RecordKind) (content : Vector Word 5) (count : Word) (r : ReturnPath) : Sent :=
  ⟨kind, content, r.nextSeq, r.firstMark, count, 0⟩

/-- Number a record and append it to the in-flight list (R135). -/
def appendSent (e : Sent) (r : ReturnPath) : ReturnPath :=
  { r with inFlight := r.inFlight ++ [e], nextSeq := r.nextSeq + 1, firstMark := false }

/-- A first sending from the reply queue or the event queue, for a slot of a class (R134 step 2, R135). -/
def sendNew (cls : OfferClass) (s : State) : State × Option (Vector Word 6) :=
  let count := s.framer.acceptedCount
  if s.params.returnWindow.toNat ≤ s.ret.inFlight.length then (s, none)
  else
    match (if classAdmits cls .reply then s.ret.replies else []) with
    | reply :: rest =>
      let e := firstSending .reply (replyContent reply) count s.ret
      (s.putRet { appendSent e s.ret with replies := rest }, some (recordPayload false e))
    | [] =>
      match (if classAdmits cls .event then s.ret.events else []) with
      | w :: rest =>
        let e := firstSending (waitingKind w) (waitingContent s.ret w) count s.ret
        let r := { appendSent e s.ret with events := rest }
        (s.putRet (if w = .overflow then { r with lost := 0, firstLoss := none } else r),
          some (recordPayload false e))
      | [] => (s, none)

/-- The entry after one more sending (R136). -/
def resentEntry (count : Word) (e : Sent) : Sent :=
  { e with lastSend := count, resends := min (e.resends + 1) 15 }

/-- Resend the entry at the resend position, if the class admits its kind (R134 step 1, R136, R139). -/
def resendAt (cls : OfferClass) (position : Nat) (s : State) : State × Option (Vector Word 6) :=
  match s.ret.inFlight[position]? with
  | none => (s, none)
  | some e =>
    if classAdmits cls e.kind then
      let list := s.ret.inFlight.set position (resentEntry s.framer.acceptedCount e)
      let next := if position + 1 < list.length then some (position + 1) else none
      (countResend (s.putRet { s.ret with inFlight := list, resendAt := next }), some (recordPayload true e))
    else (s, none)

/-- An OFFER slot of a class is offered to the return path (R134). -/
def serveOffer (cls : OfferClass) (s : State) : State × Option (Vector Word 6) :=
  match s.ret.resendAt with
  | some position => resendAt cls position s
  | none => sendNew cls s

/-! The retry test (R137 to R141) -/

/-- The retry age of an entry (R137). -/
def retryAge (count : Word) (e : Sent) : Nat :=
  (count - e.lastSend).toNat

/-- The RETURN-ABANDONED alert of a list of entries, oldest first (R141). -/
def abandonedAlert (number : Word) (oldest : Sent) (others : List Sent) : Alert :=
  ⟨.returnAbandoned, number, oldest.seq.setWidth 16, ((others.getLast?).getD oldest).seq.setWidth 16⟩

/-- The whole in-flight list is abandoned (R140). -/
def abandonAll (s : State) : State :=
  countAbandoned s.ret.inFlight.length (setFlag .returnAbandoned (s.putRet { s.ret with inFlight := [] }))

/-- The test at an accepted marker: the state after it and the alert it raises (R137). -/
def retryTest (s : State) : State × List Raised :=
  match s.ret.resendAt, s.ret.inFlight with
  | some _, _ => (s, [])
  | none, [] => (s, [])
  | none, oldest :: others =>
    if retryAge s.framer.acceptedCount oldest < s.params.retryInterval.toNat then (s, [])
    else if oldest.resends < s.params.retryLimit.toNat then (s.putRet { s.ret with resendAt := some 0 }, [])
    else (abandonAll s, [.alert (abandonedAlert (lastNumber s) oldest others)])

/-! Acknowledgement (R142 to R144) -/

/-- The number of entries an acknowledgement of s covers: the entry that carries s and every older one. -/
def coveredBy (seq : Byte) : List Sent → Option Nat
  | [] => none
  | e :: es => if e.seq = seq then some 1 else (coveredBy seq es).map (· + 1)

/-- The return path after an acknowledgement that covers its n oldest entries (R142, R143). -/
def removeOldest (n : Nat) (r : ReturnPath) : ReturnPath :=
  let left := r.inFlight.drop n
  { r with
    inFlight := left
    resendAt := if left.isEmpty then none else r.resendAt.map (· - n) }

/-- The acknowledgement of a sequence number (R142, R144). -/
def acknowledgeSeq (seq : Byte) (s : State) : State :=
  match coveredBy seq s.ret.inFlight with
  | some n => s.putRet (removeOldest n s.ret)
  | none => setFlag .ackStray s

end Sys2Proof.Machine
end

