-- ==== Sys2Proof/Machine/Effects.lean ====
section
/-! DEFINITION. What each command kind does once it is executed: its tests in their order, its effect, its result and the
data of its reply (R161 to R168 and the rules they name). -/

namespace Sys2Proof.Machine

/-- The outcome of an executed command: the state after it, its result and its three data words (R159, R160). -/
structure Effect where
  state : State
  result : Result
  d0 : Word
  d1 : Word
  d2 : Word

/-- A refusal without effect and without data. -/
def refuse (r : Result) (s : State) : Effect :=
  ⟨s, r, 0, 0, 0⟩

/-- All four arguments are 0. -/
def noArguments (c : Call) : Bool :=
  c.a0 == 0 && c.a1 == 0 && c.a2 == 0 && c.a3 == 0

/-- ECHO (R162). -/
def effectEcho (c : Call) (s : State) : Effect :=
  if c.a3 = 0 then ⟨s, .done, c.a0, c.a1, c.a2⟩ else refuse .range s

/-- An unknown kind (R161). -/
def effectUnknown (s : State) : Effect :=
  refuse .unknown s

/-- READ-PARAM (R163). -/
def effectReadParam (c : Call) (s : State) : Effect :=
  if c.a1 = 0 ∧ c.a2 = 0 ∧ c.a3 = 0 then
    match paramOf c.a0 with
    | none => ⟨s, .unknown, c.a0, 0, 0⟩
    | some p => ⟨s, .done, c.a0, paramValue p s, 0⟩
  else refuse .range s

/-- A channel configuration parameter takes a value, which becomes the channel's pending configuration (R82). -/
def storeChannelConfig (ch : Fin 8) (v : Word) (s : State) : State :=
  (s.putParams { s.params with channelConfig := s.params.channelConfig.set ch.val v ch.isLt }).putChannels
    (s.channels.set ch.val { s.channels[ch] with pending := some (configOf v) } ch.isLt)

/-- A guard-mode parameter and its channel's guard mode take a value at once (R83). -/
def storeGuardMode (ch : Fin 8) (v : Word) (s : State) : State :=
  (s.putParams { s.params with guardMode := s.params.guardMode.set ch.val v ch.isLt }).putChannels
    (s.channels.set ch.val { s.channels[ch] with guardMode := guardModeOf v } ch.isLt)

/-- P6 takes a value, and the pin is judged afresh; a pin that becomes active is a LINE trip (R104). -/
def storePolarity (v : Word) (s : State) : State :=
  let t := s.putParams { s.params with guardPolarity := v }
  if !linePresent s && linePresent t then trip .line t else t

/-- A parameter takes a value (R164 step 6, R175). -/
def storeParam (p : Param) (v : Word) (s : State) : State :=
  match p with
  | .coastLimit => s.putParams { s.params with coastLimit := v }
  | .quickConfirm => s.putParams { s.params with quickConfirm := v }
  | .returnWindow => s.putParams { s.params with returnWindow := v }
  | .retryInterval => s.putParams { s.params with retryInterval := v }
  | .retryLimit => s.putParams { s.params with retryLimit := v }
  | .guardPolarity => storePolarity v s
  | .confirmCount => s.putParams { s.params with confirmCount := v }
  | .edgeModes => s.putParams { s.params with edgeModes := v }
  | .channelConfig ch => storeChannelConfig ch v s
  | .guardMode ch => storeGuardMode ch v s
  | .groups => s.putParams { s.params with groups := v }
  | .address | .identity | .revision => s

/-- A parameter's own write condition (R164 step 5): LOCKED for a guard mode while the guard is tripped or the channel
held (R83), BUSY for a window below the in-flight count (R146). -/
def writeRefusal (p : Param) (v : Word) (s : State) : Option Result :=
  match p with
  | .guardMode ch => if s.guard.state = .tripped ∨ s.channels[ch].held = true then some .locked else none
  | .returnWindow => if v.toNat < s.ret.inFlight.length then some .busy else none
  | _ => none

/-- WRITE-PARAM (R164). -/
def effectWriteParam (c : Call) (s : State) : Effect :=
  if c.a2 = 0 ∧ c.a3 = 0 then
    match paramOf c.a0 with
    | none => ⟨s, .unknown, c.a0, 0, 0⟩
    | some p =>
      let old := paramValue p s
      if paramReadOnly p then ⟨s, .locked, c.a0, old, old⟩
      else if paramAdmits p c.a1 then
        match writeRefusal p c.a1 s with
        | some r => ⟨s, r, c.a0, old, old⟩
        | none => ⟨storeParam p c.a1 s, .done, c.a0, c.a1, old⟩
      else ⟨s, .range, c.a0, old, old⟩
  else ⟨s, .range, c.a0, 0, 0⟩

/-- READ-ENTRY (R47, R57). -/
def effectReadEntry (c : Call) (s : State) : Effect :=
  if c.a1.toNat ≤ 1 ∧ c.a2 = 0 ∧ c.a3 = 0 then
    match (bankOf (if c.a1 = 0 then s.plan.active else standby s.plan) s.plan)[c.a0.toNat]? with
    | some e => ⟨s, .done, actionCode e, wordCode e, optionCode e⟩
    | none => refuse .range s
  else refuse .range s

/-- WRITE-ENTRY (R44, R45, R57). -/
def effectWriteEntry (c : Call) (s : State) : Effect :=
  match (if c.a0.toNat ≤ 127 then entryOfArgs c.a1 c.a2 c.a3 else none) with
  | none => refuse .range s
  | some e =>
    match s.plan.commit with
    | some target => ⟨s, .pending, target, 0, 0⟩
    | none =>
      let b := standby s.plan
      ⟨s.putPlan (putBank b ((bankOf b s.plan).setIfInBounds c.a0.toNat e) s.plan), .done, c.a0, c.a1, bankNumber b⟩

/-- COPY-ACTIVE (R46, R57). -/
def effectCopyActive (c : Call) (s : State) : Effect :=
  if noArguments c then
    match s.plan.commit with
    | some target => ⟨s, .pending, target, 0, 0⟩
    | none =>
      let b := standby s.plan
      ⟨s.putPlan (putBank b (bankOf s.plan.active s.plan) s.plan), .done, bankNumber b, 0, 0⟩
  else refuse .range s

/-- COMMIT (R49, R57); c is the number of the cycle whose completion executes it. -/
def effectCommit (c : Call) (s : State) : Effect :=
  let now := lastNumber s
  if c.a1 = 0 ∧ c.a2 = 0 ∧ c.a3 = 0 then
    match s.plan.commit with
    | some target => ⟨s, .pending, target, now, 0⟩
    | none =>
      if 1 ≤ (c.a0 - now).toNat ∧ (c.a0 - now).toNat ≤ 32767 then
        ⟨s.putPlan { s.plan with commit := some c.a0 }, .done, c.a0, now, bankNumber (standby s.plan)⟩
      else ⟨s, .range, c.a0, now, 0⟩
  else ⟨s, .range, c.a0, now, 0⟩

/-- CANCEL-COMMIT (R54, R57). -/
def effectCancelCommit (c : Call) (s : State) : Effect :=
  if noArguments c then
    match s.plan.commit with
    | some target => ⟨s.putPlan { s.plan with commit := none }, .done, target, 0, 0⟩
    | none => refuse .notPending s
  else refuse .range s

/-- The guard word of READ-STATUS (R165). -/
def guardWord (s : State) : Word :=
  causeWord s.guard.causes + 256 * causeWord (presentCauses s) +
    (match s.guard.state with
    | .tripped => 32768
    | .normal => 0)

/-- READ-STATUS (R165). -/
def effectReadStatus (c : Call) (s : State) : Effect :=
  if noArguments c then ⟨s, .done, s.flags, guardWord s, s.guard.tripCycle⟩ else refuse .range s

/-- What a RANGE refusal of CLEAR-STATUS carries in d0: a free reading (log 9). -/
def clearRefusalData (flags : Word) : Word :=
  if Config.clearRefusalReports then flags else 0

/-- CLEAR-STATUS (R166). -/
def effectClearStatus (c : Call) (s : State) : Effect :=
  if c.a1 = 0 ∧ c.a2 = 0 ∧ c.a3 = 0 ∧ c.a0.toNat < 16384 then
    let t := clearFlags c.a0 s
    ⟨t, .done, t.flags, 0, 0⟩
  else ⟨s, .range, clearRefusalData s.flags, 0, 0⟩

/-- READ-COUNTERS (R167). -/
def effectReadCounters (c : Call) (s : State) : Effect :=
  if c.a0.toNat ≤ 6 ∧ c.a1 = 0 ∧ c.a2 = 0 ∧ c.a3 = 0 then
    let i := c.a0.toNat
    ⟨s, .done, counterAt s.counters i, counterAt s.counters (i + 1), counterAt s.counters (i + 2)⟩
  else refuse .range s

/-- CLEAR-COUNTERS (R168); its reply carries a0 in d0 whatever the result. -/
def effectClearCounters (c : Call) (s : State) : Effect :=
  if c.a0.toNat ≤ 127 ∧ c.a1 = 0 ∧ c.a2 = 0 ∧ c.a3 = 0 then
    ⟨s.putCounters (clearCountersNamed c.a0 s.counters), .done, c.a0, 0, 0⟩
  else ⟨s, .range, c.a0, 0, 0⟩

/-- ACKNOWLEDGE (R142 to R144); never answered, so its data are of no account. -/
def effectAcknowledge (c : Call) (s : State) : Effect :=
  if c.a0.toNat ≤ 255 ∧ c.a1 = 0 ∧ c.a2 = 0 ∧ c.a3 = 0 then
    ⟨acknowledgeSeq (loByte c.a0) s, .done, 0, 0, 0⟩
  else refuse .range s

/-- GUARD-TRIP (R106, R113). -/
def effectGuardTrip (c : Call) (s : State) : Effect :=
  if noArguments c then
    let t := trip .command s
    ⟨t, .done, causeWord t.guard.causes, t.guard.tripCycle,
      match s.guard.state with
      | .normal => 1
      | .tripped => 0⟩
  else refuse .range s

/-- The guard after an accepted clear, with its alert (R110). -/
def clearGuard (s : State) : State :=
  queueAlert ⟨.guardCleared, lastNumber s, 0, 0⟩ (s.putGuard { s.guard with state := .normal, causes := 0 })

/-- GUARD-CLEAR (R109, R113). -/
def effectGuardClear (c : Call) (s : State) : Effect :=
  let record := causeWord (causeAlone s.guard.tripCause)
  if noArguments c then
    match s.guard.state with
    | .normal => ⟨s, .notTripped, 0, s.guard.tripCycle, record⟩
    | .tripped =>
      if presentCauses s = 0 then ⟨clearGuard s, .done, causeWord s.guard.causes, s.guard.tripCycle, record⟩
      else ⟨s, .causePresent, causeWord (presentCauses s), causeWord s.guard.causes, s.guard.tripCycle⟩
  else refuse .range s

end Sys2Proof.Machine
end

