-- ==== Sys2Proof/Machine/Agent.lean ====
section
/-! DEFINITION. The command agent (chapter 9): how one command is refused, skipped, not executed or executed (R154 to
R160), RESET-STATION's own ending (R170, R171), and the execution of a held list (R75). -/

namespace Sys2Proof.Machine

/-- Append a reply to the reply queue (R130). -/
def queueReply (r : Reply) (s : State) : State :=
  s.putRet { s.ret with replies := s.ret.replies ++ [r] }

/-- The reply queue holds fewer than 8 records (R156, R158). -/
def replyRoom (s : State) : Bool :=
  decide (s.ret.replies.length < Config.replyPlaces)

/-- REFUSED counts an executed command whose result is not DONE (R159). -/
def countResult (r : Result) (s : State) : State :=
  if r = .done then s else countRefused s

/-- The station tag memory takes a tag and its reply; tag 0 is not remembered (R159). -/
def rememberSingle (tag : Byte) (r : Reply) (s : State) : State :=
  if tag = 0 then s else s.putAgent { s.agent with stationTag := tag, stored := some r }

/-- The group tag memory takes a tag; tag 0 is not remembered (R159). -/
def rememberGroup (tag : Byte) (s : State) : State :=
  if tag = 0 then s else s.putAgent { s.agent with groupTag := tag }

/-- The end of an executed single-destination command other than ACKNOWLEDGE (R159). -/
def finishSingle (code tag : Byte) (e : Effect) : State :=
  let r : Reply := ⟨tag, code, e.result, e.d0, e.d1, e.d2⟩
  countResult e.result (rememberSingle tag r (queueReply r e.state))

/-- The end of an executed group or all-stations command (R159). -/
def finishGroup (tag : Byte) (e : Effect) : State :=
  countResult e.result (rememberGroup tag e.state)

/-- A single-destination duplicate: the stored reply again, if there is room (R156). -/
def repeatReply (s : State) : State :=
  let t := setFlag .duplicate s
  if replyRoom t then
    match t.agent.stored with
    | some r => queueReply r t
    | none => t
  else setFlag .replyFull t

/-- The reply of RESET-STATION (R171). -/
def resetReply (tag : Byte) (s : State) : Reply :=
  ⟨tag, 16, .done, s.agent.address.setWidth 16, Config.identity, Config.revision⟩

/-- A RESET-STATION that executes: the reset, then its ending by destination type (R169, R171). -/
def executeReset (dest : DestType) (tag : Byte) (s : State) : State :=
  let t := stationReset s
  match dest with
  | .single =>
    let r := resetReply tag t
    (queueReply r t).putAgent { t.agent with
      stationTag := tag, stored := if tag = 0 then none else some r, groupTag := 0 }
  | .group | .all => t.putAgent { t.agent with stationTag := 0, stored := none, groupTag := tag }

/-- The effect of a kind other than RESET-STATION; a RESET-STATION that comes here has arguments and is refused (R169). -/
def effectOf (kind : CommandKind) (c : Call) (s : State) : Effect :=
  match kind with
  | .echo => effectEcho c s
  | .readParam => effectReadParam c s
  | .writeParam => effectWriteParam c s
  | .readEntry => effectReadEntry c s
  | .writeEntry => effectWriteEntry c s
  | .copyActive => effectCopyActive c s
  | .commit => effectCommit c s
  | .cancelCommit => effectCancelCommit c s
  | .readStatus => effectReadStatus c s
  | .clearStatus => effectClearStatus c s
  | .readCounters => effectReadCounters c s
  | .clearCounters => effectClearCounters c s
  | .acknowledge => effectAcknowledge c s
  | .guardTrip => effectGuardTrip c s
  | .guardClear => effectGuardClear c s
  | .resetStation => refuse .range s
  | .unknown => effectUnknown s

/-- The command is a RESET-STATION with the arguments it admits (R169). -/
def isReset (kind : CommandKind) (c : Call) : Bool :=
  kind == .resetStation && noArguments c

/-- How the agent ends an entry (R154). -/
inductive Verdict where
  | destinationRefused
  | duplicateSingle
  | duplicateGroup
  | noReplyPlace
  | executed
  deriving DecidableEq, Repr

/-- The steps before execution, in their order: destination (R155), duplicate tag (R156, R157), reply place (R158). -/
def judgeCommand (code : Byte) (c : Call) (s : State) : Verdict :=
  match c.dest with
  | .single =>
    if kindOf code = .acknowledge then .executed
    else if c.tag ≠ 0 ∧ c.tag = s.agent.stationTag then .duplicateSingle
    else if replyRoom s then .executed
    else .noReplyPlace
  | .group | .all =>
    if !groupAllowed (kindOf code) then .destinationRefused
    else if c.tag ≠ 0 ∧ c.tag = s.agent.groupTag then .duplicateGroup
    else .executed

/-- The execution of a command (R159, R169, R171). -/
def executeCommand (code : Byte) (c : Call) (s : State) : State :=
  if isReset (kindOf code) c then executeReset c.dest c.tag s
  else
    let e := effectOf (kindOf code) c s
    match c.dest with
    | .single =>
      if kindOf code = .acknowledge then countResult e.result e.state else finishSingle code c.tag e
    | .group | .all => finishGroup c.tag e

/-- The agent takes one command (R154). -/
def takeCommand (code : Byte) (c : Call) (s : State) : State :=
  match judgeCommand code c s with
  | .destinationRefused => countRefused (setFlag .groupRefused s)
  | .duplicateSingle => repeatReply s
  | .duplicateGroup => setFlag .duplicate s
  | .noReplyPlace => setFlag .replyFull s
  | .executed => executeCommand code c s

/-- The command is a RESET-STATION that executes, so that the rest of its held list is discarded (R170). -/
def discardsRest (code : Byte) (c : Call) (s : State) : Bool :=
  judgeCommand code c s == .executed && isReset (kindOf code) c

/-- The held list executed in slot order (R75, R154, R170), with what falls before each entry; what falls after the last
or among discarded ones is taken all the same (R154, R173, R180). DESIGN CHOICE (log 23): the spec does not say how many
FAULT items may fall among the entries of one held list, and any number may; of each an entry sees WORD-FAULT and nothing
else, so that between two entries no count changes but by the entries (R183). -/
def runHeld : List HeldEntry → List (List Amid) → State → State
  | [], amid, s => takeAmids amid.flatten s
  | e :: es, amid, s =>
    let t := takeAmids (amid.headD []) s
    let u := takeCommand e.code e.call t
    if discardsRest e.code e.call t then takeAmids amid.tail.flatten u else runHeld es amid.tail u

end Sys2Proof.Machine
end

