-- ==== Sys2Proof/Machine/Sampler.lean ====
section
/-! DEFINITION. The input sampler (chapter 7): the sample, qualification, edges and the EVENT record. -/

namespace Sys2Proof.Machine

/-- A first sample of one input (R117). -/
def firstSampleLine (raw : Bool) : InputLine :=
  ⟨some raw, 1, raw, false⟩

/-- The run length after a raw level (R118, step 1). -/
def runAfter (raw : Bool) (l : InputLine) : Nat :=
  if l.lastRaw = some raw then min (l.run + 1) 4 else 1

/-- One input qualified with the confirm count P7 (R118). -/
def sampleLine (confirm : Word) (raw : Bool) (l : InputLine) : InputLine :=
  let run := runAfter raw l
  let changed := decide (confirm.toNat ≤ run) && raw != l.qualified
  ⟨some raw, run, if changed then raw else l.qualified, changed⟩

/-- A rising edge of an input after a sample, by its edge mode (R121). -/
def risingEdge (modes : Word) (i : Fin 8) (l : InputLine) : Bool :=
  l.changed && l.qualified && (edgeModeOf modes i).getLsbD 0

/-- A falling edge of an input after a sample, by its edge mode (R121). -/
def fallingEdge (modes : Word) (i : Fin 8) (l : InputLine) : Bool :=
  l.changed && !l.qualified && (edgeModeOf modes i).getLsbD 1

/-- The sampler after a sample of the eight input lines (R116 to R118). -/
def sampledLines (confirm : Word) (inputs : Byte) (sm : Sampler) : Sampler :=
  ⟨false, Vector.ofFn fun i =>
    if sm.first then firstSampleLine (placeOf inputs i) else sampleLine confirm (placeOf inputs i) sm.lines[i]⟩

/-- The EVENT record of a sample, if any input has an edge (R122). -/
def sampleEvent (number modes : Word) (sm : Sampler) : List Raised :=
  let rising := byteOf fun i => risingEdge modes i sm.lines[i]
  let falling := byteOf fun i => fallingEdge modes i sm.lines[i]
  if rising = 0 ∧ falling = 0 then []
  else [.event ⟨number, byteOf fun i => sm.lines[i].qualified, rising, falling⟩]

/-- The sample at an accepted marker: the state after it and the EVENT it hands over (R116, R122). -/
def takeSample (number : Word) (s : State) : State × List Raised :=
  let sm := sampledLines s.params.confirmCount s.pins.inputs s.sampler
  (s.putSampler sm, sampleEvent number s.params.edgeModes sm)

end Sys2Proof.Machine
end

