-- ==== Sys2Proof/Machine/Slots.lean ====
section
/-! DEFINITION. The slot engine (chapter 4): the decision for one slot, by action, and the words it leaves as. -/

namespace Sys2Proof.Machine

/-- The cycle being followed, with its net check change increased (R62). -/
def addNet (change : Word) (s : State) : State :=
  match s.framer.cycle with
  | some c => s.putFramer { s.framer with cycle := some { c with net := c.net + change } }
  | none => s

/-- The slot that has just passed leaves rewritten (R62): new header and payload, a new check, and the check change added
to the net check change of its cycle. -/
def leaveAs (arrived : Slot) (header : Word) (payload : Vector Word 6) (s : State) : State :=
  let check := slotCheck header payload
  let words := [header, payload[0], payload[1], payload[2], payload[3], payload[4], payload[5], check]
  addNet (check - arrived.check) (s.putFwd (rewriteSlot words (check - arrived.check) s.fwd))

/-- The slot leaves released (R64, R72). -/
def leaveReleased (n : Nat) (arrived : Slot) (s : State) : State :=
  leaveAs arrived (slotHeader 0 false n) zeroPayload s

/-- The slot leaves HELD by this station (R66, R68). -/
def leaveOwned (n : Nat) (arrived : Slot) (payload : Vector Word 6) (s : State) : State :=
  leaveAs arrived (slotHeader s.agent.address true n) payload s

/-- A damaged slot: flagged and counted, and it leaves as it arrived (R61). -/
def flagDamaged (s : State) : State :=
  countDamaged (setFlag .slotDamaged s)

/-- TAKE (R63 to R65). -/
def takeAction (word : Fin 6) (release : Bool) (n : Nat) (sl : Slot) (s : State) : State :=
  if slotHeld sl.header then
    let t := s.putChannels (stagePattern sl.payload[word] s.channels)
    if release then leaveReleased n sl t else t
  else setFlag .emptyTake s

/-- FILL (R66, R67). -/
def fillAction (word : Fin 6) (src : Source) (n : Nat) (sl : Slot) (s : State) : State :=
  if slotHeld sl.header then countCollision (setFlag .collision s)
  else leaveOwned n sl (sl.payload.set word.val (sourceWord src s) word.isLt) s

/-- OFFER (R68, R69): the words handed over stand in `handover`. -/
def offerAction (cls : OfferClass) (n : Nat) (sl : Slot) (s : State) : State :=
  if slotHeld sl.header then s
  else
    match serveOffer cls s with
    | (t, some words) => leaveOwned n sl words (t.putEngine { t.engine with handover := some words })
    | (t, none) => t

/-- MANAGE (R70 to R72). -/
def manageAction (release : Bool) (n : Nat) (sl : Slot) (s : State) : State :=
  if slotHeld sl.header ∧ slotOwner sl.header = 0 then
    match destinationType s.agent.address s.params.groups (recordDestination sl.payload) with
    | none => s
    | some dest =>
      let t := s.putEngine { s.engine with held := s.engine.held ++ [heldEntryOf n dest sl.payload] }
      if release ∧ dest = .single then leaveReleased n sl t else t
  else s

/-- An entry's action on an undamaged slot (R60). -/
def actOnSlot (e : Entry) (n : Nat) (sl : Slot) (s : State) : State :=
  match e with
  | .pass => s
  | .take word release => takeAction word release n sl s
  | .fill word src => fillAction word src n sl s
  | .offer cls => offerAction cls n sl s
  | .manage release => manageAction release n sl s

/-- The undamaged slot n in the last eight places of the delay line (R11). -/
def passingSlot (n : Nat) (s : State) : Option Slot :=
  match slotOfItems (lastSlotItems s.fwd) with
  | none => none
  | some sl => if slotDamaged n sl then none else some sl

/-- The decision for slot n of an accepted cycle, at the arrival of its check position (R59, R60). -/
def decideSlot (c : Cycle) (n : Nat) (s : State) : State :=
  match passingSlot n s with
  | none => flagDamaged s
  | some sl => if c.status = .running then actOnSlot (activeEntry c.kind n s.plan) n sl s else s

end Sys2Proof.Machine
end

