-- ==== Sys2Proof/Machine/Framer.lean ====
section
/-! DEFINITION. The cycle framer (chapter 2): judging markers, following candidates and accepted cycles, windows, failures
and link loss, with what the other blocks do at the accepted, spoiled and missed events. -/

namespace Sys2Proof.Machine

/-! Failures (R34 to R38, R76, R86, R105) -/

/-- One failure: in LOCKED F becomes 1 and the framer coasts (R34); in COASTING F increases (R35). -/
def takeFailure (s : State) : State :=
  match s.framer.acquisition with
  | .locked => s.putFramer { s.framer with acquisition := .coasting, failures := 1 }
  | .coasting => s.putFramer { s.framer with failures := s.framer.failures + 1 }
  | .hunt | .confirm => s

/-- A missed cycle: k, MISSED, the ready levels, a failure (R33, R38, R86). -/
def missCycle (s : State) : State :=
  takeFailure (countMissed (discardReady (s.putFramer { s.framer with
    position := s.framer.position + 1, judging := none })))

/-- The accepted cycle under way is spoiled: staging and held list go, BAD-TRAILER, MISSED, a failure (R32, R38, R76). -/
def spoilCycle (c : Cycle) (s : State) : State :=
  let t := s.putFramer { s.framer with cycle := some { c with status := .spoiled } }
  let u := (t.putChannels (dropStaging t.channels)).putEngine { t.engine with held := [] }
  takeFailure (countMissed (setFlag .badTrailer u))

/-! Acceptance (R26, R30) -/

/-- A cycle is accepted at its header word B (R30, R58); what the other blocks do at its accepted marker follows in
`settle`. -/
def acceptCycle (time : Nat) (a b : Word) (s : State) : State :=
  let cycle : Cycle := ⟨true, a, headerKind b, headerSlots b, 2, a + b, false, .running, 0⟩
  let t := s.putFramer { s.framer with
    acceptedCount := s.framer.acceptedCount + 1
    last := some ⟨a, time⟩
    position := 1
    judging := none
    cycle := some cycle }
  (t.putChannels (dropStaging t.channels)).putEngine { t.engine with held := [] }

/-- Entry to LOCKED at a marker that passes (R26). -/
def enterLocked (time : Nat) (spacing : Nat) (a b : Word) (s : State) : State :=
  acceptCycle time a b (s.putFramer { s.framer with
    acquisition := .locked
    reference := some (s.framer.reference.getD spacing)
    failures := 0
    candidate := none })

/-! HUNT and CONFIRM (R22 to R25) -/

/-- Return to HUNT without link loss (R22, R24, R25). -/
def enterHunt (s : State) : State :=
  s.putFramer { s.framer with
    acquisition := .hunt, reference := none, slotCount := none, candidate := none, judging := none, cycle := none }

/-- A MARKER begins to be judged (R20). -/
def beginJudging (purpose : Purpose) (s : State) : State :=
  s.putFramer { s.framer with judging := some ⟨s.framer.now, purpose, none⟩, cycle := none }

/-- A candidate cycle as it is followed from its header (R24). -/
def candidateCycle (a b : Word) : Cycle :=
  ⟨false, a, headerKind b, headerSlots b, 2, a + b, false, .running, 0⟩

/-- The confirm target N for a value of P2 (R23). -/
def confirmTarget (quick : Word) : Nat :=
  if quick = 1 then 1 else 3

/-- Entry to CONFIRM, first or as a restart (R23). -/
def enterConfirm (time : Nat) (a b : Word) (s : State) : State :=
  s.putFramer { s.framer with
    acquisition := .confirm
    reference := none
    slotCount := some (headerSlots b)
    candidate := some ⟨a, time, headerSlots b, 0, confirmTarget s.params.quickConfirm⟩
    judging := none
    cycle := some (candidateCycle a b) }

/-- A spacing is acceptable (R25). -/
def spacingAcceptable (reference : Option Nat) (spacing : Nat) : Bool :=
  match reference with
  | none => decide (spacing ≤ Config.maxSpacing)
  | some r => decide (r ≤ spacing + Config.tolerance ∧ spacing ≤ r + Config.tolerance ∧ spacing ≤ Config.maxSpacing)

/-- A valid header judged against a completed candidate (R25). -/
def judgeSuccessor (c : Candidate) (time : Nat) (a b : Word) (s : State) : State :=
  let spacing := time - c.time
  if a = c.number + 1 ∧ headerSlots b = c.slots ∧ spacingAcceptable s.framer.reference spacing then
    if c.target ≤ c.good then enterLocked time spacing a b s
    else s.putFramer { s.framer with
      reference := some (s.framer.reference.getD spacing)
      candidate := some { c with number := a, time := time }
      judging := none
      cycle := some (candidateCycle a b) }
  else enterConfirm time a b s

/-! LOCKED and COASTING (R27 to R29) -/

/-- The item time E of the next expected marker (R27). -/
def expectedTime (s : State) : Option Nat :=
  match s.framer.last, s.framer.reference with
  | some m, some r => some (m.time + s.framer.position * r)
  | _, _ => none

/-- An item time lies in the current window (R27). -/
def inWindow (time : Nat) (s : State) : Bool :=
  match expectedTime s with
  | some e => decide (e ≤ time + Config.tolerance ∧ time ≤ e + Config.tolerance)
  | none => false

/-- An item time is the last of the current window (R33). -/
def windowCloses (time : Nat) (s : State) : Bool :=
  match expectedTime s with
  | some e => time == e + Config.tolerance
  | none => false

/-- A valid header judged in its window: accepted with the expected number and S, else refused (R28). -/
def judgeExpected (time : Nat) (a b : Word) (s : State) : State :=
  if a = lastNumber s + BitVec.ofNat 16 s.framer.position ∧ s.framer.slotCount = some (headerSlots b) then
    acceptCycle time a b s
  else missCycle s

/-- A judged marker's header is found not valid (R22, R25, R28, R33). -/
def headerNotValid (j : Judging) (s : State) : State :=
  match j.purpose with
  | .search | .successor => enterHunt s
  | .window => missCycle s

/-- A judged marker's header is valid. -/
def headerIsValid (j : Judging) (a b : Word) (s : State) : State :=
  match j.purpose with
  | .search => enterConfirm j.time a b s
  | .successor =>
    match s.framer.candidate with
    | some c => judgeSuccessor c j.time a b s
    | none => enterConfirm j.time a b s
  | .window => judgeExpected j.time a b s

/-- The item at position 1 or 2 of a judged marker (R20). A MARKER there ends the first one's header; it is judged itself in
HUNT and CONFIRM and is stray in LOCKED and COASTING (R20, R29). -/
def headerItem (j : Judging) (item : Item) (s : State) : State :=
  match item, j.headerA with
  | .word a, none => s.putFramer { s.framer with judging := some { j with headerA := some a } }
  | .word b, some a => if headerValid a b then headerIsValid j a b s else headerNotValid j s
  | .marker, _ =>
    match j.purpose with
    | .search | .successor => beginJudging .search (headerNotValid j s)
    | .window => headerNotValid j (setFlag .strayMarker s)
  | .idle, _ => headerNotValid j s
  | .fault, _ => headerNotValid j s

/-- An item that belongs to no cycle and no header (R21, R22, R25, R28, R29, R33). -/
def gapItem (item : Item) (s : State) : State :=
  match s.framer.acquisition with
  | .hunt => if item = .marker then beginJudging .search s else s
  | .confirm => if item = .marker then beginJudging .successor s else s
  | .locked | .coasting =>
    if item = .marker ∧ inWindow s.framer.now s then beginJudging .window s
    else
      let t := setFlagIf (item == .marker) .strayMarker s
      if windowCloses s.framer.now t then missCycle t else t

/-! Following a cycle (R24, R30 to R32) -/

/-- A position is the check position of a slot (R8, R60). -/
def isCheckPos (c : Cycle) (pos : Nat) : Bool :=
  decide (10 ≤ pos ∧ pos < trailerPos c ∧ (pos - 10) % 8 = 0)

/-- A cycle after its next item: position, running cycle check, and whether a slot check was no WORD (R12, R31). -/
def advanceCycle (item : Item) (c : Cycle) : Cycle :=
  let pos := c.pos + 1
  if isCheckPos c pos then
    match item with
    | .word v => { c with pos := pos, sum := c.sum + v }
    | _ => { c with pos := pos, checkFault := true }
  else { c with pos := pos }

/-- The item just counted is a trailer that checks (R31). -/
def trailerChecks (item : Item) (c : Cycle) : Bool :=
  item == .word c.sum && !c.checkFault

/-- An item of a candidate (R24). A MARKER inside it fails it and is judged at once. DESIGN CHOICE (log 24): R24 does not say
when the data of the failed candidate go; they stand, with S and any reference (R19), until that MARKER has been judged, which
replaces them (R23) or ends them with the return to HUNT. -/
def candidateItem (c : Cycle) (item : Item) (s : State) : State :=
  let d := advanceCycle item c
  if item = .marker then beginJudging .search s
  else if d.pos < trailerPos c then
    if item = .idle then enterHunt s else s.putFramer { s.framer with cycle := some d }
  else if trailerChecks item d then
    s.putFramer { s.framer with
      candidate := s.framer.candidate.map fun k => { k with good := k.good + 1 }
      cycle := none }
  else enterHunt s

/-- The item just counted spoils a cycle that is still running (R32). -/
def spoils (item : Item) (d : Cycle) : Bool :=
  d.status == .running &&
    (item == .marker || if d.pos < trailerPos d then item == .idle else !trailerChecks item d)

/-- The end of an accepted cycle at its trailer position: the trailer leaves adjusted if it is a WORD (R30, R73). -/
def endCycle (s : State) : State :=
  match s.framer.cycle with
  | some c => (s.putFwd (adjustTrailer c.net s.fwd)).putFramer { s.framer with cycle := none }
  | none => s

/-- An item of an accepted cycle: stray marker, spoil, slot decision, trailer (R29, R32, R60, R73). -/
def acceptedItem (c : Cycle) (item : Item) (s : State) : State :=
  let d := advanceCycle item c
  let s1 := setFlagIf (item == .marker) .strayMarker (s.putFramer { s.framer with cycle := some d })
  let s2 := if spoils item d then spoilCycle d s1 else s1
  let status := if spoils item d then .spoiled else d.status
  if d.pos < trailerPos d then
    if isCheckPos d d.pos then decideSlot { d with status := status } ((d.pos - 10) / 8) s2 else s2
  else endCycle s2

/-- A MARKER in HUNT cuts short the spoiled cycle still being counted; the slot it falls in is damaged (R30, R36, R60). -/
def cutShort (c : Cycle) (s : State) : State :=
  if c.pos + 1 < trailerPos c then flagDamaged s else s

/-- An item while a cycle is being counted. -/
def cycleItem (c : Cycle) (item : Item) (s : State) : State :=
  if !c.accepted then candidateItem c item s
  else if item = .marker ∧ s.framer.acquisition = .hunt then beginJudging .search (cutShort c s)
  else acceptedItem c item s

/-- The framer and the slot engine take an item (section 2.2 to 2.8). -/
def frameItem (item : Item) (s : State) : State :=
  match s.framer.judging, s.framer.cycle with
  | some j, _ => headerItem j item s
  | none, some c => cycleItem c item s
  | none, none => gapItem item s

/-! What an acceptance and a link loss bring to the other blocks (R26, R30, R36, R51, R85, R116, R137) -/

/-- What the other blocks do at an accepted marker: swap, apply, sample, retry test; then the raised records enter the
event queue (R51, R85, R116, R137). -/
def atAcceptedMarker (amid : List (List Amid)) (number : Word) (raised : List Raised)
    (s : State) : State :=
  let (s1, swap) := commitTest number s
  let (s2, event) := takeSample number (applyInstant s1)
  let (s3, retry) := retryTest s2
  queueAtMarker amid (raised ++ swap ++ event ++ retry) s3

/-- LINK-LOST and the LINK trip of a link loss, in the free order where both queue an alert (R36, R105; log 8). -/
def raiseLinkLoss (amid : List (List Amid)) (s : State) : State :=
  let alert := queueAlert ⟨.linkLost, lastNumber s, 0, 0⟩
  let parts := if Config.tripBeforeAlert s.choice then [trip .link, alert] else [alert, trip .link]
  interleave parts amid (s.putChoice (s.choice + 1))

/-- Link loss (R36): the cycle under way, if any, goes on being counted. -/
def loseLink (amid : List (List Amid)) (s : State) : State :=
  raiseLinkLoss amid (discardReady (s.putFramer { s.framer with
    acquisition := .hunt, reference := none, slotCount := none, failures := 0, position := 0, judging := none }))

/-- The framer has accepted a cycle (R30). -/
def accepted (before after : Framer) : Bool :=
  after.acceptedCount != before.acceptedCount

/-- LOCK-GAINED, where the framer has taken up its candidate at entry to LOCKED (R26). -/
def gainedRecords (before after : Framer) (number : Word) : List Raised :=
  if before.candidate.isSome && after.candidate.isNone then [.alert ⟨.lockGained, number, 0, 0⟩] else []

/-- A failure in COASTING has brought F above the coast limit (R35). -/
def exceeds (coastLimit : Word) (before after : Framer) : Bool :=
  before.acquisition == .coasting && decide (before.failures < after.failures ∧ coastLimit.toNat < after.failures)

/-- The other blocks' part in what the framer has just done, with what falls amid it. -/
def settle (amid : List (List Amid)) (before : Framer) (s : State) : State :=
  if accepted before s.framer then
    atAcceptedMarker amid (lastNumber s) (gainedRecords before s.framer (lastNumber s)) s
  else if exceeds s.params.coastLimit before s.framer then loseLink amid s
  else s

/-- The framer and the slot engine take an item that completes no cycle, with what falls amid it: around the records of an
acceptance or the two parts of a link loss, else before and after the item's own work, a slot's decision among it (R66,
R132, R180). -/
def frameAmid (amid : List (List Amid)) (item : Item) (s : State) : State :=
  let t := frameItem item s
  if accepted s.framer t.framer || exceeds t.params.coastLimit s.framer t.framer then settle amid s.framer t
  else interleave [frameItem item] amid s

/-- The item completes the accepted cycle under way (R31). -/
def completes (item : Item) (s : State) : Bool :=
  match s.framer.judging, s.framer.cycle with
  | none, some c =>
    c.accepted && c.status == .running && c.pos + 1 == trailerPos c && trailerChecks item (advanceCycle item c)
  | _, _ => false

end Sys2Proof.Machine
end

