-- ==== Sys2Proof/Machine/Events.lean ====
section
/-! DEFINITION. The meanings of the rows that are events: pins, power, items, and the events inside an item's arrival as
rows of their own (log 1, 2, 20, 21). -/

namespace Sys2Proof.Machine

/-- The completion of an accepted cycle: LOCKED with F 0, staging made ready, the held list executed (R31, R35, R74, R75). -/
def completeCycle (amid : List (List Amid)) (s : State) : State :=
  let t := s.putFramer { s.framer with acquisition := .locked, failures := 0 }
  let u := runHeld t.engine.held amid (t.putChannels (makeReady t.channels))
  u.putEngine { u.engine with held := [] }

/-- One item goes through the forwarding path, and one item time passes (R2). -/
def carryItem (item : Item) (s : State) : State :=
  let t := s.putFwd (forwardItem item s.fwd)
  t.putFramer { t.framer with now := t.framer.now + 1 }

/-- One item goes through the forwarding path and the receive port, out of reset (R1, R2). -/
def portItem (item : Item) (s : State) : State :=
  setFlagIf (item == .fault) .wordFault (carryItem item s)

/-- One item arrives: the forwarding path, the receive port's flag, the framer and the slot engine, and the completion, the
acceptance or the link loss it may bring (R1, R2, R5). -/
def takeItem (item : Item) (inputs : Byte) (amid : List (List Amid)) (s : State) : State :=
  let t := s.putPins { s.pins with inputs := inputs }
  if t.inReset then takeAmids amid.flatten (t.putFwd (forwardItem item t.fwd))
  else
    let u := portItem item t
    if completes item u then completeCycle amid (frameItem item u) else frameAmid amid item u

/-- A FAULT item whose WORD-FAULT has been taken amid the item before it: the rest of its arrival (R2, R5, R154; log 23). A
FAULT completes no cycle. -/
def laterFault (s : State) : State :=
  if s.inReset then s.putFwd (forwardItem .fault s.fwd) else frameAmid [] .fault (carryItem .fault s)

/-- Several of them, one item time each. -/
def laterFaults : Nat → State → State
  | 0, s => s
  | n + 1, s => laterFaults n (laterFault s)

/-- One ITEM_RECEIVED: its item, and then the FAULT items that fell amid it (log 23). -/
def receiveItem (item : Item) (inputs : Byte) (amid : List (List Amid)) (s : State) : State :=
  laterFaults (amid.flatten.count .fault) (takeItem item inputs amid s)

/-! When an event that is a row of its own can be taken (log 2, 20, 21) -/

/-- The framer follows the ring and the blocks run: accepted markers can come (R30). -/
def followsRing (s : State) : Bool :=
  !s.inReset && (s.framer.acquisition == .locked || s.framer.acquisition == .coasting)

/-- No slot of a cycle is under way: between cycles, or right at a header word B (R42). -/
def atMarker (s : State) : Bool :=
  followsRing s &&
    match s.framer.cycle with
    | none => true
    | some c => decide (c.pos ≤ 2)

/-- A cycle has completed and the next has not begun, with the framer in LOCKED: when commands execute (R75). -/
def atCompletion (s : State) : Bool :=
  !s.inReset && s.framer.acquisition == .locked &&
    match s.framer.cycle with
    | none => true
    | some c => c.status == .completed

/-- The accepted cycle under way has passed its last slot with no item against it, so that its trailer is due (R31). -/
def trailerDue (c : Cycle) : Bool :=
  c.accepted && c.status == .running && !c.checkFault && c.pos + 1 == trailerPos c

/-- The window of the next expected marker has been reached and no cycle is being counted (R33). -/
def windowReached (s : State) : Bool :=
  followsRing s && s.framer.cycle.isNone &&
    match expectedTime s with
    | some e => decide (e ≤ s.framer.now + Config.tolerance)
    | none => false

/-- The OFFER slot that has just passed and is still free to carry a record: its number, its words and its class (R68,
R69, R132). -/
def offeredSlot (s : State) : Option (Nat × Slot × OfferClass) :=
  match s.framer.cycle with
  | none => none
  | some c =>
    if followsRing s && c.accepted && c.status == .running && isCheckPos c c.pos && !lastSlotRewritten s.fwd then
      match passingSlot ((c.pos - 10) / 8) s, activeEntry c.kind ((c.pos - 10) / 8) s.plan with
      | some sl, .offer cls => some ((c.pos - 10) / 8, sl, cls)
      | _, _ => none
    else none

/-! The rows -/

/-- POWER_UP (R3). -/
def execPowerUp (s : State) : Host.Outcome State Fault Refusal :=
  .next (powerUpState s)

/-- RESET_PIN_ASSERTED (R5). -/
def execResetPinAsserted (s : State) : Host.Outcome State Fault Refusal :=
  .next (assertReset s)

/-- HARDWARE_RESET (R6): the release; on a pin that is not held, a short assertion and its release (R5; log 14). -/
def execHardwareReset (straps : BitVec 5) (s : State) : Host.Outcome State Fault Refusal :=
  .next (releaseReset straps (if s.inReset then s else assertReset s))

/-- ITEM_RECEIVED (R2). -/
def execItemReceived (item : Item) (inputs : Byte) (amid : List (List Amid)) (s : State) :
    Host.Outcome State Fault Refusal :=
  .next (receiveItem item inputs amid s)

/-- CYCLE_COMPLETED (R31), where the trailer of the accepted cycle is due. A FAULT amid the row is its WORD-FAULT alone: the
items are rows of their own (log 20). -/
def execCycleCompleted (amid : List (List Amid)) (s : State) : Host.Outcome State Fault Refusal :=
  match s.framer.cycle with
  | some c =>
    if followsRing s && trailerDue c then
      .next (completeCycle amid (s.putFramer { s.framer with cycle := some { c with status := .completed } }))
    else .next s
  | none => .next s

/-- CYCLE_MISSED (R33), where the window has been reached. -/
def execCycleMissed (s : State) : Host.Outcome State Fault Refusal :=
  .next (if windowReached s then settle [] s.framer (missCycle s) else s)

/-- PLAN_SWAP (R51): the comparison and the swap at an accepted marker numbered M. -/
def execPlanSwap (number : Word) (s : State) : Host.Outcome State Fault Refusal :=
  .next (if atMarker s then
      let (t, raised) := commitTest number s
      queueAll raised t
    else s)

/-- APPLY_INSTANT (R85). -/
def execApplyInstant (s : State) : Host.Outcome State Fault Refusal :=
  .next (if atMarker s then applyInstant s else s)

/-- GUARD_PIN_ACTIVE (R103): the pin goes to its active level under P6. -/
def execGuardPinActive (s : State) : Host.Outcome State Fault Refusal :=
  .next (setGuardPin (s.params.guardPolarity != 0) s)

/-- GUARD_PIN_INACTIVE (R103): the pin goes to its inactive level under P6. -/
def execGuardPinInactive (s : State) : Host.Outcome State Fault Refusal :=
  .next (setGuardPin (s.params.guardPolarity == 0) s)

/-- RECORD_SENT (R135): the slot that has just passed is offered, with resend mode off. -/
def execRecordSent (s : State) : Host.Outcome State Fault Refusal :=
  match offeredSlot s with
  | some (n, sl, cls) => .next (if s.ret.resendAt.isNone then offerAction cls n sl s else s)
  | none => .next s

/-- RECORD_RESENT (R136): the slot that has just passed is offered, with resend mode on. -/
def execRecordResent (s : State) : Host.Outcome State Fault Refusal :=
  match offeredSlot s with
  | some (n, sl, cls) => .next (if s.ret.resendAt.isSome then offerAction cls n sl s else s)
  | none => .next s

/-- RETRY_EXPIRY (R137): the test at an accepted marker. -/
def execRetryExpiry (s : State) : Host.Outcome State Fault Refusal :=
  .next (if atMarker s then
      let (t, raised) := retryTest s
      queueAll raised t
    else s)

end Sys2Proof.Machine
end

