-- ==== Sys2Proof/Machine/Commands.lean ====
section
/-! DEFINITION. The meanings of the rows that are command records: each is the command agent's taking of one entry of its
kind, at a cycle completion (R75, R154). Where no completion stands, no command executes and nothing changes (log 3). -/

namespace Sys2Proof.Machine

/-- A command row: the agent takes the command at a completion. -/
def commandStep (code : Byte) (c : Call) (s : State) : Host.Outcome State Fault Refusal :=
  .next (if atCompletion s then takeCommand code c s else s)

/-- The arguments of a WRITE-PARAM whose parameter number is given. -/
def writeCall (number : Nat) (w : WriteCall) : Call :=
  ⟨w.dest, w.tag, BitVec.ofNat 16 number, w.a1, w.a2, w.a3⟩

/-- ECHO (R162). -/
def execEcho (c : Call) (s : State) : Host.Outcome State Fault Refusal :=
  commandStep 1 c s

/-- UNKNOWN_COMMAND (R161). -/
def execUnknownCommand (code : Byte) (c : Call) (s : State) : Host.Outcome State Fault Refusal :=
  commandStep code c s

/-- READ_PARAM (R163). -/
def execReadParam (c : Call) (s : State) : Host.Outcome State Fault Refusal :=
  commandStep 2 c s

/-- WRITE_PARAM (R164). -/
def execWriteParam (c : Call) (s : State) : Host.Outcome State Fault Refusal :=
  commandStep 3 c s

/-- WRITE_GUARD_PIN_POLARITY (R104). -/
def execWriteGuardPinPolarity (w : WriteCall) (s : State) : Host.Outcome State Fault Refusal :=
  commandStep 3 (writeCall 6 w) s

/-- WRITE_RETURN_WINDOW (R146). -/
def execWriteReturnWindow (w : WriteCall) (s : State) : Host.Outcome State Fault Refusal :=
  commandStep 3 (writeCall 3 w) s

/-- WRITE_CHANNEL_CONFIGURATION (R82). -/
def execWriteChannelConfiguration (channel : Fin 8) (w : WriteCall) (s : State) : Host.Outcome State Fault Refusal :=
  commandStep 3 (writeCall (16 + channel.val) w) s

/-- WRITE_GUARD_MODE (R83). -/
def execWriteGuardMode (channel : Fin 8) (w : WriteCall) (s : State) : Host.Outcome State Fault Refusal :=
  commandStep 3 (writeCall (24 + channel.val) w) s

/-- READ_ENTRY (R47). -/
def execReadEntry (c : Call) (s : State) : Host.Outcome State Fault Refusal :=
  commandStep 4 c s

/-- WRITE_ENTRY (R45). -/
def execWriteEntry (c : Call) (s : State) : Host.Outcome State Fault Refusal :=
  commandStep 5 c s

/-- COPY_ACTIVE (R46). -/
def execCopyActive (c : Call) (s : State) : Host.Outcome State Fault Refusal :=
  commandStep 6 c s

/-- COMMIT (R49). -/
def execCommit (c : Call) (s : State) : Host.Outcome State Fault Refusal :=
  commandStep 7 c s

/-- CANCEL_COMMIT (R54). -/
def execCancelCommit (c : Call) (s : State) : Host.Outcome State Fault Refusal :=
  commandStep 8 c s

/-- READ_STATUS (R165). -/
def execReadStatus (c : Call) (s : State) : Host.Outcome State Fault Refusal :=
  commandStep 9 c s

/-- CLEAR_STATUS (R166). -/
def execClearStatus (c : Call) (s : State) : Host.Outcome State Fault Refusal :=
  commandStep 10 c s

/-- READ_COUNTERS (R167). -/
def execReadCounters (c : Call) (s : State) : Host.Outcome State Fault Refusal :=
  commandStep 11 c s

/-- CLEAR_COUNTERS (R168). -/
def execClearCounters (c : Call) (s : State) : Host.Outcome State Fault Refusal :=
  commandStep 12 c s

/-- ACKNOWLEDGE (R142). -/
def execAcknowledge (c : Call) (s : State) : Host.Outcome State Fault Refusal :=
  commandStep 13 c s

/-- GUARD_TRIP (R106). -/
def execGuardTrip (c : Call) (s : State) : Host.Outcome State Fault Refusal :=
  commandStep 14 c s

/-- GUARD_CLEAR (R109). -/
def execGuardClear (c : Call) (s : State) : Host.Outcome State Fault Refusal :=
  commandStep 15 c s

/-- RESET_STATION (R169). -/
def execResetStation (c : Call) (s : State) : Host.Outcome State Fault Refusal :=
  commandStep 16 c s

end Sys2Proof.Machine
end

