-- ==== Sys2Proof/Machine/Dispatch.lean ====
section
/-! DEFINITION. The meaning of every command, one arm per constructor. -/

namespace Sys2Proof.Machine

/-- The effect of a command on everything but the queue. -/
def exec (i : Instr) (s : State) : Host.Outcome State Fault Refusal :=
  match i with
  | .powerUp => Sys2Proof.Machine.execPowerUp s
  | .resetPinAsserted => Sys2Proof.Machine.execResetPinAsserted s
  | .hardwareReset straps => Sys2Proof.Machine.execHardwareReset straps s
  | .itemReceived item inputs amid => Sys2Proof.Machine.execItemReceived item inputs amid s
  | .cycleCompleted amid => Sys2Proof.Machine.execCycleCompleted amid s
  | .cycleMissed => Sys2Proof.Machine.execCycleMissed s
  | .planSwap number => Sys2Proof.Machine.execPlanSwap number s
  | .applyInstant => Sys2Proof.Machine.execApplyInstant s
  | .guardPinActive => Sys2Proof.Machine.execGuardPinActive s
  | .guardPinInactive => Sys2Proof.Machine.execGuardPinInactive s
  | .recordSent => Sys2Proof.Machine.execRecordSent s
  | .recordResent => Sys2Proof.Machine.execRecordResent s
  | .retryExpiry => Sys2Proof.Machine.execRetryExpiry s
  | .echo call => Sys2Proof.Machine.execEcho call s
  | .unknownCommand code call => Sys2Proof.Machine.execUnknownCommand code call s
  | .readParam call => Sys2Proof.Machine.execReadParam call s
  | .writeParam call => Sys2Proof.Machine.execWriteParam call s
  | .writeGuardPinPolarity write => Sys2Proof.Machine.execWriteGuardPinPolarity write s
  | .writeReturnWindow write => Sys2Proof.Machine.execWriteReturnWindow write s
  | .writeChannelConfiguration channel write => Sys2Proof.Machine.execWriteChannelConfiguration channel write s
  | .writeGuardMode channel write => Sys2Proof.Machine.execWriteGuardMode channel write s
  | .readEntry call => Sys2Proof.Machine.execReadEntry call s
  | .writeEntry call => Sys2Proof.Machine.execWriteEntry call s
  | .copyActive call => Sys2Proof.Machine.execCopyActive call s
  | .commit call => Sys2Proof.Machine.execCommit call s
  | .cancelCommit call => Sys2Proof.Machine.execCancelCommit call s
  | .readStatus call => Sys2Proof.Machine.execReadStatus call s
  | .clearStatus call => Sys2Proof.Machine.execClearStatus call s
  | .readCounters call => Sys2Proof.Machine.execReadCounters call s
  | .clearCounters call => Sys2Proof.Machine.execClearCounters call s
  | .acknowledge call => Sys2Proof.Machine.execAcknowledge call s
  | .guardTrip call => Sys2Proof.Machine.execGuardTrip call s
  | .guardClear call => Sys2Proof.Machine.execGuardClear call s
  | .resetStation call => Sys2Proof.Machine.execResetStation call s

end Sys2Proof.Machine
end

