-- ==== Sys2Proof/Safety.lean ====
section
/-! DEFINITION. The terms the statements use: the laws every step keeps, and the effects of the rules written out as the
manual's tables give them, field by field, apart from the meanings that carry them out. -/

namespace Sys2Proof.Safety

open Sys2Proof.Machine

/-! ## The laws of the station's state -/

/-- A channel whose HELD flag is set has a guard mode (R83). While the guard is TRIPPED every channel with a guard mode is
held (R88, R114). The cause set is empty exactly in NORMAL (R97). -/
structure GuardLaw (s : State) : Prop where
  heldHasMode : ∀ i : Fin 8, s.channels[i].held = true → s.channels[i].guardMode ≠ .none
  trippedHolds : s.guard.state = .tripped → ∀ i : Fin 8, s.channels[i].guardMode ≠ .none → s.channels[i].held = true
  causes : s.guard.state = .normal ↔ s.guard.causes = 0

/-- The return window lies in 1 to 8 and bounds the in-flight list, whose records carry consecutive sequence numbers that
end one below the next one; resend counts stop at 15; the resend position names an entry (R129, R133, R136). -/
structure InFlightLaw (s : State) : Prop where
  window : 1 ≤ s.params.returnWindow.toNat ∧ s.params.returnWindow.toNat ≤ 8
  bounded : s.ret.inFlight.length ≤ s.params.returnWindow.toNat
  consecutive : ∀ (i : Nat) (h : i < s.ret.inFlight.length),
    s.ret.inFlight[i].seq = s.ret.nextSeq - BitVec.ofNat 8 (s.ret.inFlight.length - i)
  resends : ∀ (i : Nat) (h : i < s.ret.inFlight.length), s.ret.inFlight[i].resends ≤ 15
  position : ∀ p, s.ret.resendAt = some p → p < s.ret.inFlight.length

/-- The queues stay within their places, at most one OVERFLOW waits, one that waits has losses to report, and a first-loss
cycle is present exactly while losses are counted (R124 to R126, R130, R131). -/
structure QueueLaw (s : State) : Prop where
  replies : s.ret.replies.length ≤ 8
  events : s.ret.events.length ≤ 16
  oneOverflow : s.ret.events.count .overflow ≤ 1
  overflowReports : Waiting.overflow ∈ s.ret.events → s.ret.lost ≠ 0
  firstLoss : s.ret.firstLoss = none ↔ s.ret.lost = 0

/-- The station tag memory holds a stored reply exactly when its tag is not 0, and that reply carries its tag (R153). -/
structure TagLaw (s : State) : Prop where
  noTag : s.agent.stationTag = 0 → s.agent.stored = none
  tagged : s.agent.stationTag ≠ 0 → ∃ r, s.agent.stored = some r ∧ r.tag = s.agent.stationTag

/-- Every parameter lies in the range its row of the table gives (R174). -/
structure ParamLaw (s : State) : Prop where
  coastLimit : 1 ≤ s.params.coastLimit.toNat ∧ s.params.coastLimit.toNat ≤ 15
  quickConfirm : s.params.quickConfirm.toNat ≤ 1
  returnWindow : 1 ≤ s.params.returnWindow.toNat ∧ s.params.returnWindow.toNat ≤ 8
  retryInterval : 4 ≤ s.params.retryInterval.toNat ∧ s.params.retryInterval.toNat ≤ 255
  retryLimit : 1 ≤ s.params.retryLimit.toNat ∧ s.params.retryLimit.toNat ≤ 15
  guardPolarity : s.params.guardPolarity.toNat ≤ 1
  confirmCount : 1 ≤ s.params.confirmCount.toNat ∧ s.params.confirmCount.toNat ≤ 4
  channelConfig : ∀ i : Fin 8, s.params.channelConfig[i].toNat ≤ 15
  guardMode : ∀ i : Fin 8, s.params.guardMode[i].toNat ≤ 3
  address : 1 ≤ s.agent.address.toNat ∧ s.agent.address.toNat ≤ 32

/-- Outside a reset, a channel's configuration to come is the one its parameter codes, and its guard mode the one its
guard-mode parameter codes (R81 to R83). -/
structure ConfigLaw (s : State) : Prop where
  config : s.inReset = false → ∀ i : Fin 8,
    s.channels[i].pending.getD s.channels[i].config = configOf s.params.channelConfig[i]
  guardMode : s.inReset = false → ∀ i : Fin 8, s.channels[i].guardMode = guardModeOf s.params.guardMode[i]

/-- The framer reports the link present: LOCKED or COASTING (R37). -/
def follows (s : State) : Bool :=
  s.framer.acquisition == .locked || s.framer.acquisition == .coasting

/-- What the four acquisition states carry with them: F is 0 but in COASTING, where it lies in 1 to P1 (R34, R35); in LOCKED
and COASTING a last accepted cycle, a reference and S are held and k is at least 1 (R26, R27); in HUNT the reference and S
are absent (R22, R36); a candidate exists exactly in CONFIRM, and S is present exactly while a reference is held or a
candidate exists (R19; log 24); k is 0 in HUNT and CONFIRM (R36; log 17). A cycle that is accepted and not spoiled, and a
marker judged in a window, belong to LOCKED and COASTING; a candidate's cycle and a successor belong to CONFIRM; no cycle is
counted while a marker is judged (R20 to R31). -/
structure FramerLaw (s : State) : Prop where
  coastLimit : 1 ≤ s.params.coastLimit.toNat
  coasting : s.framer.acquisition = .coasting →
    1 ≤ s.framer.failures ∧ s.framer.failures ≤ s.params.coastLimit.toNat
  noFailure : s.framer.acquisition ≠ .coasting → s.framer.failures = 0
  holds : follows s = true →
    s.framer.last.isSome ∧ s.framer.reference.isSome ∧ s.framer.slotCount.isSome ∧ 1 ≤ s.framer.position
  noWindow : follows s = false → s.framer.position = 0
  hunting : s.framer.acquisition = .hunt → s.framer.reference = none ∧ s.framer.slotCount = none
  confirming : s.framer.acquisition = .confirm → s.framer.slotCount.isSome
  candidate : s.framer.candidate.isSome = true ↔ s.framer.acquisition = .confirm
  slotCount : s.framer.slotCount.isSome = true ↔ s.framer.reference.isSome = true ∨ s.framer.candidate.isSome = true
  goodCycle : ∀ c, s.framer.cycle = some c → c.accepted = true → c.status ≠ .spoiled → follows s = true
  candidateCycle : ∀ c, s.framer.cycle = some c → c.accepted = false → s.framer.acquisition = .confirm
  oneAtATime : s.framer.judging ≠ none → s.framer.cycle = none
  judgedInWindow : ∀ j, s.framer.judging = some j → (j.purpose = .window ↔ follows s = true)
  judgedSuccessor : ∀ j, s.framer.judging = some j → j.purpose = .successor → s.framer.acquisition = .confirm

/-- The delay line holds the items of 12 item times (R2). -/
def LineLaw (s : State) : Prop :=
  s.fwd.line.length = 12

/-- Places 14 and 15 of the status set read as clear (R178). -/
def SpareFlagsLaw (s : State) : Prop :=
  s.flags.toNat < 16384

/-! ## Counts, flags and the ending of a command (R154 to R160, R182) -/

/-- A count increased by an amount; it stops at 65535 (R182). -/
def bump (w : Word) (amount : Nat) : Word :=
  BitVec.ofNat 16 (min (w.toNat + amount) 65535)

/-- The kind code and the collected command a row stands for; none for the rows that are events. -/
def commandRecord : Instr → Option (Byte × Call)
  | .powerUp => none
  | .resetPinAsserted => none
  | .hardwareReset _ => none
  | .itemReceived _ _ _ => none
  | .cycleCompleted _ => none
  | .cycleMissed => none
  | .planSwap _ => none
  | .applyInstant => none
  | .guardPinActive => none
  | .guardPinInactive => none
  | .recordSent => none
  | .recordResent => none
  | .retryExpiry => none
  | .echo c => some (0x01, c)
  | .unknownCommand code c => some (code, c)
  | .readParam c => some (0x02, c)
  | .writeParam c => some (0x03, c)
  | .writeGuardPinPolarity w => some (0x03, ⟨w.dest, w.tag, 6, w.a1, w.a2, w.a3⟩)
  | .writeReturnWindow w => some (0x03, ⟨w.dest, w.tag, 3, w.a1, w.a2, w.a3⟩)
  | .writeChannelConfiguration i w => some (0x03, ⟨w.dest, w.tag, BitVec.ofNat 16 (16 + i.val), w.a1, w.a2, w.a3⟩)
  | .writeGuardMode i w => some (0x03, ⟨w.dest, w.tag, BitVec.ofNat 16 (24 + i.val), w.a1, w.a2, w.a3⟩)
  | .readEntry c => some (0x04, c)
  | .writeEntry c => some (0x05, c)
  | .copyActive c => some (0x06, c)
  | .commit c => some (0x07, c)
  | .cancelCommit c => some (0x08, c)
  | .readStatus c => some (0x09, c)
  | .clearStatus c => some (0x0A, c)
  | .readCounters c => some (0x0B, c)
  | .clearCounters c => some (0x0C, c)
  | .acknowledge c => some (0x0D, c)
  | .guardTrip c => some (0x0E, c)
  | .guardClear c => some (0x0F, c)
  | .resetStation c => some (0x10, c)

/-- The codes a group or all-stations command may carry (R152). -/
def groupCodes : List Byte :=
  [0x03, 0x05, 0x06, 0x07, 0x08, 0x0A, 0x0C, 0x0E, 0x0F, 0x10]

/-- A command of this destination type and tag reaches execution: a completion stands (log 3), its tag is no duplicate, and
a single-destination command finds a reply place (R156 to R158). -/
def Executes (dest : DestType) (tag : Byte) (s : State) : Prop :=
  atCompletion s = true ∧
    match dest with
    | .single => (tag = 0 ∨ tag ≠ s.agent.stationTag) ∧ s.ret.replies.length < 8
    | .group | .all => tag = 0 ∨ tag ≠ s.agent.groupTag

/-- The ending of an executed command: REFUSED for a result other than DONE; for a single destination the reply and the
station tag memory, for a group or all stations the group tag memory (R159, R160). -/
def ending (dest : DestType) (tag code : Byte) (r : Result) (d0 d1 d2 : Word) (s : State) : State :=
  let counters := if r = .done then s.counters else { s.counters with refused := bump s.counters.refused 1 }
  match dest with
  | .single =>
    let reply : Reply := ⟨tag, code, r, d0, d1, d2⟩
    { s with
      ret := { s.ret with replies := s.ret.replies ++ [reply] }
      agent := if tag = 0 then s.agent else { s.agent with stationTag := tag, stored := some reply }
      counters := counters }
  | .group | .all =>
    { s with
      agent := if tag = 0 then s.agent else { s.agent with groupTag := tag }
      counters := counters }

/-- A command refused for its destination: GROUP-REFUSED and one more in REFUSED (R155). -/
def refusedForDestination (s : State) : State :=
  { s with
    flags := s.flags ||| 0x0100
    counters := { s.counters with refused := bump s.counters.refused 1 } }

/-- All four arguments of a command are 0. -/
def NoArguments (c : Call) : Prop :=
  c.a0 = 0 ∧ c.a1 = 0 ∧ c.a2 = 0 ∧ c.a3 = 0

/-- An ALERT handed to the event queue: admitted below 16 records, else lost with ALERT-LOST (R131). -/
def alerted (kind : AlertKind) (cycle d0 d1 : Word) (s : State) : State :=
  if s.ret.events.length < 16 then
    { s with ret := { s.ret with events := s.ret.events ++ [.alert ⟨kind, cycle, d0, d1⟩] } }
  else { s with flags := s.flags ||| 0x1000 }

/-- The number of the last accepted cycle, 0 if there is none (R19, R101). -/
def lastAccepted (s : State) : Word :=
  (s.framer.last.map Marker.number).getD 0

/-! ## The parameter table (R174) -/

/-- The value of the parameter of a number; none for a number outside the table. -/
def tableValue (s : State) : Nat → Option Word
  | 1 => some s.params.coastLimit
  | 2 => some s.params.quickConfirm
  | 3 => some s.params.returnWindow
  | 4 => some s.params.retryInterval
  | 5 => some s.params.retryLimit
  | 6 => some s.params.guardPolarity
  | 7 => some s.params.confirmCount
  | 8 => some s.params.edgeModes
  | 16 => some s.params.channelConfig[0]
  | 17 => some s.params.channelConfig[1]
  | 18 => some s.params.channelConfig[2]
  | 19 => some s.params.channelConfig[3]
  | 20 => some s.params.channelConfig[4]
  | 21 => some s.params.channelConfig[5]
  | 22 => some s.params.channelConfig[6]
  | 23 => some s.params.channelConfig[7]
  | 24 => some s.params.guardMode[0]
  | 25 => some s.params.guardMode[1]
  | 26 => some s.params.guardMode[2]
  | 27 => some s.params.guardMode[3]
  | 28 => some s.params.guardMode[4]
  | 29 => some s.params.guardMode[5]
  | 30 => some s.params.guardMode[6]
  | 31 => some s.params.guardMode[7]
  | 40 => some s.params.groups
  | 60 => some (s.agent.address.setWidth 16)
  | 61 => some 2608
  | 62 => some 1
  | _ => none

/-- The greatest and the least value of the writable parameters whose write has no row of its own; none for every other
number. -/
def plainRange : Nat → Option (Nat × Nat)
  | 1 => some (1, 15)
  | 2 => some (0, 1)
  | 4 => some (4, 255)
  | 5 => some (1, 15)
  | 7 => some (1, 4)
  | 8 => some (0, 65535)
  | 40 => some (0, 65535)
  | _ => none

/-- The parameters after one of those numbers has taken a value. -/
def plainStored (p : Params) (v : Word) : Nat → Params
  | 1 => { p with coastLimit := v }
  | 2 => { p with quickConfirm := v }
  | 4 => { p with retryInterval := v }
  | 5 => { p with retryLimit := v }
  | 7 => { p with confirmCount := v }
  | 8 => { p with edgeModes := v }
  | 40 => { p with groups := v }
  | _ => p

/-- The defaults of the table (R174). -/
def defaults : Params :=
  { coastLimit := 3, quickConfirm := 0, returnWindow := 4, retryInterval := 32, retryLimit := 8, guardPolarity := 0
    confirmCount := 2, edgeModes := 0, channelConfig := #v[0, 0, 0, 0, 0, 0, 0, 0]
    guardMode := #v[0, 0, 0, 0, 0, 0, 0, 0], groups := 0 }

/-! ## The blocks after a reset (R6, R40, R43, R80, R115, R129, R169) -/

/-- The entry of the start plan at an index of either bank (R43, R44). -/
def startEntry (index : Nat) : Entry :=
  if index = 0 ∨ index = 64 then .manage true else if index = 1 ∨ index = 65 then .offer .any else .pass

/-- A channel after any reset (R80). -/
def resetChannel : Channel :=
  { config := ⟨false, .pattern, false, false⟩, pending := none, guardMode := .none, staged := none, ready := none
    applied := false, held := false }

/-- Slot plan, slot engine, output channels, input sampler, return path, flags and counters stand at the values that a
hardware reset and a station reset give alike (R40, R58, R80, R115, R129, R181, R184). -/
structure BlocksReset (t : State) : Prop where
  bank0 : ∀ i : Fin 128, t.plan.bank0[i] = startEntry i
  bank1 : ∀ i : Fin 128, t.plan.bank1[i] = startEntry i
  active : t.plan.active = .zero
  commit : t.plan.commit = none
  held : t.engine.held = []
  channels : ∀ i : Fin 8, t.channels[i] = resetChannel
  firstSample : t.sampler.first = true
  inputs : ∀ i : Fin 8, t.sampler.lines[i] = ⟨none, 0, false, false⟩
  ret : t.ret = ⟨[], [], [], 0, true, none, 0, none⟩
  flags : t.flags = 0
  counters : t.counters = ⟨0, 0, 0, 0, 0, 0, 0⟩

/-! ## The guard (R98 to R104) -/

/-- The GUARD pin stands at its active level under P6 (R103). -/
def lineActive (s : State) : Bool :=
  if s.params.guardPolarity = 0 then !s.pins.guardHigh else s.pins.guardHigh

/-- The present causes in cause-set form: place 2 LINE, place 3 LINK (R17, R98). -/
def causesPresent (s : State) : Word :=
  (if lineActive s then 4 else 0) + (if follows s then 0 else 8)

/-- The word of a cause alone (R17). -/
def causeNumber : Cause → Word
  | .start => 1
  | .reset => 2
  | .line => 4
  | .link => 8
  | .command => 16

/-- The cause set with one cause. -/
def causeSet : Cause → BitVec 5
  | .start => 1
  | .reset => 2
  | .line => 4
  | .link => 8
  | .command => 16

/-- A trip: from NORMAL by R99 with HELD (R88) and the alert (R102), while TRIPPED by R100. -/
def tripped (c : Cause) (s : State) : State :=
  if s.guard.state = .normal then
    alerted .guardTripped (lastAccepted s) (causeNumber c) 0
      { s with
        guard := ⟨.tripped, causeSet c, lastAccepted s, c⟩
        channels := Vector.ofFn fun i =>
          { s.channels[i] with held := s.channels[i].held || s.channels[i].guardMode != .none } }
  else { s with guard := { s.guard with causes := s.guard.causes ||| causeSet c } }

/-! ## The output channels (R85, R89, R90, R92) -/

/-- A channel after the apply instant, by the guard state (R85, R89, R90). -/
def appliedChannel (g : GuardState) (c : Channel) : Channel :=
  { config := c.pending.getD c.config
    pending := none
    guardMode := c.guardMode
    staged := c.staged
    ready := none
    applied := c.ready.getD c.applied
    held := c.held && !(g == .normal && ((c.pending.getD c.config).source == .fixed || c.ready.isSome)) }

/-! ## Items and slots (R2, R8, R10, R42, R60, R62) -/

/-- The station after an item, out of reset, before the framer looks at it: the item enters the delay line, the input lines
stand as given, one item time passes, and a FAULT sets WORD-FAULT (R1, R2). -/
def afterItem (item : Item) (inputs : Byte) (s : State) : State :=
  { s with
    fwd := forwardItem item s.fwd
    pins := { s.pins with inputs := inputs }
    framer := { s.framer with now := s.framer.now + 1 }
    flags := if item = .fault then s.flags ||| 0x0001 else s.flags }

/-- The entry that steers slot n of a cycle: the active bank's half of the cycle's kind (R42, R44). -/
def steering (c : Cycle) (n : Nat) (s : State) : Option Entry :=
  (match s.plan.active with
    | .zero => s.plan.bank0
    | .one => s.plan.bank1)[n + (match c.kind with
    | .a => 0
    | .b => 64)]?

/-- A slot of WORDs is undamaged at place n: its check is the complement of the sum and its number is n (R10, R11). -/
def Undamaged (n : Nat) (sl : Slot) : Prop :=
  sl.check = 65535 - (sl.header + sl.payload[0] + sl.payload[1] + sl.payload[2] + sl.payload[3] + sl.payload[4]
    + sl.payload[5]) ∧ (sl.header &&& 0x003F).toNat = n

/-- The last item of slot n of an accepted cycle is the one arriving now (R8, R60). -/
structure SlotEnds (c : Cycle) (n : Nat) (s : State) : Prop where
  running : s.inReset = false
  noHeader : s.framer.judging = none
  cycle : s.framer.cycle = some c
  accepted : c.accepted = true
  place : c.pos = 8 * n + 9 ∧ n < c.slots

/-- An undamaged slot ends with the WORD v, in a cycle not spoiled, under the entry e (R59, R60). -/
structure SlotPasses (c : Cycle) (n : Nat) (v : Word) (sl : Slot) (e : Entry) (s : State) : Prop where
  ends : SlotEnds c n s
  unspoiled : c.status = .running
  words : slotOfItems (lastSlotItems (forwardItem (.word v) s.fwd)) = some sl
  undamaged : Undamaged n sl
  entry : steering c n s = some e

/-- The station when slot n has just passed with its check item: the cycle stands at position 8n + 10 (R8, R12). -/
def atSlotEnd (c : Cycle) (n : Nat) (item : Item) (inputs : Byte) (s : State) : State :=
  let t := afterItem item inputs s
  { t with framer := { t.framer with cycle := some { c with
      pos := 8 * n + 10
      sum := match item with
        | .word v => c.sum + v
        | _ => c.sum
      checkFault := match item with
        | .word _ => c.checkFault
        | _ => true } } }

/-- The slot that has just passed leaves with a new header and payload and the check of R62; the cycle's net check change
grows by the check change. -/
def leaving (c : Cycle) (sl : Slot) (header : Word) (p : Vector Word 6) (s : State) : State :=
  let check := 65535 - (header + p[0] + p[1] + p[2] + p[3] + p[4] + p[5])
  { s with
    fwd := rewriteSlot [header, p[0], p[1], p[2], p[3], p[4], p[5], check] (check - sl.check) s.fwd
    framer := { s.framer with cycle := some { c with net := c.net + (check - sl.check) } } }

/-- The cycle of a state whose slot has just passed. -/
def cycleAt (c : Cycle) (n : Nat) (v : Word) : Cycle :=
  { c with pos := 8 * n + 10, sum := c.sum + v }

/-- The header of a slot HELD by this station (R10, R66). -/
def ownHeader (n : Nat) (s : State) : Word :=
  BitVec.ofNat 16 (256 * s.agent.address.toNat + 64 + n)

/-- The header and the payload of a released slot (R64). -/
def releasedHeader (n : Nat) : Word :=
  BitVec.ofNat 16 n

/-- Six payload words of 0. -/
def emptyPayload : Vector Word 6 :=
  #v[0, 0, 0, 0, 0, 0]

/-- The slot arrived HELD (R10). -/
def arrivedHeld (sl : Slot) : Bool :=
  sl.header &&& 0x0040 != 0

/-! ## The header, the sample and the events of the framer (R9, R20, R30, R116 to R118) -/

/-- A valid header: the check of R9, and S in 1 to 64 (R20). -/
def HeaderOk (a b : Word) : Prop :=
  (a.toNat / 256 + a.toNat % 256 + b.toNat / 32768 + b.toNat / 256 % 128 + 90) % 256 = b.toNat % 256 ∧
    1 ≤ b.toNat / 256 % 128 ∧ b.toNat / 256 % 128 ≤ 64

/-- The slot count that header word B carries (R8). -/
def slotsOf (b : Word) : Nat :=
  b.toNat / 256 % 128

/-- The cycle that a header opens, at position 2, with the check over words A and B (R8, R12, R30). -/
def opened (accepted : Bool) (a b : Word) : Cycle :=
  { accepted := accepted, number := a, kind := if b.toNat < 32768 then .a else .b, slots := slotsOf b, pos := 2
    sum := a + b, checkFault := false, status := .running, net := 0 }

/-- An input after a sample (R117, R118). -/
def sampledInput (first : Bool) (confirm : Word) (raw : Bool) (l : InputLine) : InputLine :=
  if first then ⟨some raw, 1, raw, false⟩
  else
    let run := if l.lastRaw = some raw then min (l.run + 1) 4 else 1
    if confirm.toNat ≤ run ∧ raw ≠ l.qualified then ⟨some raw, run, raw, true⟩ else ⟨some raw, run, l.qualified, false⟩

/-- The ready levels are discarded; LATE-PATTERN is set if one was held (R86). -/
def readyDropped (s : State) : State :=
  { s with
    channels := Vector.ofFn fun i => { s.channels[i] with ready := none }
    flags := if ∃ i : Fin 8, s.channels[i].ready.isSome = true then s.flags ||| 0x0040 else s.flags }

/-- A missed cycle, before the failure it is (R33, R38, R86): k and MISSED grow by 1 and the ready levels go. -/
def missed (s : State) : State :=
  { readyDropped s with
    framer := { s.framer with position := s.framer.position + 1, judging := none }
    counters := { s.counters with missed := bump s.counters.missed 1 } }

/-- The accepted cycle under way spoiled, before the failure it is (R32, R38, R76): staging and held list go, BAD-TRAILER is
set, MISSED grows by 1. -/
def spoiled (c : Cycle) (s : State) : State :=
  { s with
    framer := { s.framer with cycle := some { c with status := .spoiled } }
    channels := Vector.ofFn fun i => { s.channels[i] with staged := none }
    engine := { s.engine with held := [] }
    flags := s.flags ||| 0x0004
    counters := { s.counters with missed := bump s.counters.missed 1 } }

/-- A slot that has just passed damaged: SLOT-DAMAGED, and DAMAGED grows by 1 (R61). -/
def damagedSlot (s : State) : State :=
  { s with
    flags := s.flags ||| 0x0002
    counters := { s.counters with damaged := bump s.counters.damaged 1 } }

/-- The link lost (R36, R86, R105): HUNT, no reference, no S, F and k 0, no ready level; LINK-LOST and the LINK trip in
either order (log 8). -/
def LinkLost (s t : State) : Prop :=
  let lost : State := { readyDropped s with framer := { s.framer with
    acquisition := .hunt, reference := none, slotCount := none, failures := 0, position := 0, judging := none } }
  t = { tripped .link (alerted .linkLost (lastAccepted s) 0 0 lost) with choice := s.choice + 1 } ∨
    t = { alerted .linkLost (lastAccepted s) 0 0 (tripped .link lost) with choice := s.choice + 1 }

/-- A failure taken in s leaves t (R34 to R36): F 1 and COASTING from LOCKED; in COASTING F grows by 1, and above P1 the link
is lost. -/
structure Fails (s t : State) : Prop where
  locked : s.framer.acquisition = .locked → t = { s with framer := { s.framer with acquisition := .coasting, failures := 1 } }
  coasting : s.framer.acquisition = .coasting → s.framer.failures + 1 ≤ s.params.coastLimit.toNat →
    t = { s with framer := { s.framer with failures := s.framer.failures + 1 } }
  lost : s.framer.acquisition = .coasting → s.params.coastLimit.toNat < s.framer.failures + 1 → LinkLost s t

/-- The station after an item that is stray where it is a MARKER (R29): `afterItem`, with STRAY-MARKER for a MARKER. -/
def afterStray (item : Item) (inputs : Byte) (s : State) : State :=
  let t := afterItem item inputs s
  if item = .marker then { t with flags := t.flags ||| 0x0008 } else t

/-- The framer back in HUNT, one item time on, with what it then judges (R22, R24, R25). -/
def hunting (judging : Option Judging) (f : Framer) : Framer :=
  { f with
    now := f.now + 1, acquisition := .hunt, reference := none, slotCount := none, candidate := none, judging := judging
    cycle := none }

/-- What the blocks but the framer do when the cycle numbered a is accepted at its header word B, the accepted-cycle count
becoming `count` (R30): empty staging and held list (R58), swap with its alert (R51, R52), apply instant (R85), sample
(R117, R118) and retry test (R137, R138, R140, R141); every record that waited still waits. An alert is sure of its place
while at most 12 records wait, since a marker raises at most four. -/
structure MarkerTaken (a b count : Word) (inputs : Byte) (s t : State) : Prop where
  engine : t.engine = { s.engine with held := [] }
  channels : ∀ i : Fin 8, t.channels[i] = { appliedChannel s.guard.state s.channels[i] with staged := none }
  firstSample : t.sampler.first = false
  lines : ∀ i : Fin 8, t.sampler.lines[i] =
    sampledInput s.sampler.first s.params.confirmCount (inputs.getLsbD i) s.sampler.lines[i]
  noCommit : s.plan.commit = none → t.plan = s.plan
  early : ∀ target, s.plan.commit = some target → 32768 ≤ (a - target).toNat → t.plan = s.plan
  swapped : ∀ target, s.plan.commit = some target → (a - target).toNat ≤ 32767 →
    t.plan = { s.plan with commit := none, active := if s.plan.active = .zero then .one else .zero } ∧
      (s.ret.events.length ≤ 12 → .alert ⟨.planCommitted, a, if s.plan.active = .zero then 1 else 0, target⟩ ∈ t.ret.events)
  noTest : s.ret.resendAt ≠ none ∨ s.ret.inFlight = [] → t.ret.resendAt = s.ret.resendAt ∧
    t.ret.inFlight = s.ret.inFlight ∧ t.counters.abandoned = s.counters.abandoned
  young : ∀ e rest, s.ret.resendAt = none → s.ret.inFlight = e :: rest →
    (count - e.lastSend).toNat < s.params.retryInterval.toNat → t.ret.resendAt = none ∧
      t.ret.inFlight = s.ret.inFlight ∧ t.counters.abandoned = s.counters.abandoned
  resend : ∀ e rest, s.ret.resendAt = none → s.ret.inFlight = e :: rest →
    s.params.retryInterval.toNat ≤ (count - e.lastSend).toNat → e.resends < s.params.retryLimit.toNat →
      t.ret.resendAt = some 0 ∧ t.ret.inFlight = s.ret.inFlight ∧ t.counters.abandoned = s.counters.abandoned
  abandon : ∀ e rest newest, s.ret.resendAt = none → s.ret.inFlight = e :: rest →
    s.ret.inFlight.getLast? = some newest → s.params.retryInterval.toNat ≤ (count - e.lastSend).toNat →
    s.params.retryLimit.toNat ≤ e.resends → t.ret.resendAt = none ∧ t.ret.inFlight = [] ∧
      t.flags.getLsbD 13 = true ∧ t.counters.abandoned = bump s.counters.abandoned s.ret.inFlight.length ∧
      (s.ret.events.length ≤ 12 →
        .alert ⟨.returnAbandoned, a, e.seq.setWidth 16, newest.seq.setWidth 16⟩ ∈ t.ret.events)
  queued : ∃ queued, t.ret.events = s.ret.events ++ queued
  forwarded : t.fwd = forwardItem (.word b) s.fwd
  pins : t.pins = { s.pins with inputs := inputs }
  frame : t.guard = s.guard ∧ t.agent = s.agent ∧ t.params = s.params ∧ t.ret.replies = s.ret.replies ∧
    t.ret.nextSeq = s.ret.nextSeq

/-- The EVENT of the sample taken at the accepted marker numbered a, which leaves t, with at most `room` records waiting
before (R120 to R123): it is queued where an input has an edge its mode names, with the number, the qualified levels and the
edges; where none has, none is queued. -/
def SampleRaisesItsEvent (a : Word) (room : Nat) (s t : State) : Prop :=
  let rising : Fin 8 → Bool := fun i => t.sampler.lines[i].changed && t.sampler.lines[i].qualified &&
    s.params.edgeModes.getLsbD (2 * i.val)
  let falling : Fin 8 → Bool := fun i => t.sampler.lines[i].changed && !t.sampler.lines[i].qualified &&
    s.params.edgeModes.getLsbD (2 * i.val + 1)
  ((∃ i, rising i = true ∨ falling i = true) → s.ret.events.length ≤ room → ∃ e, .event e ∈ t.ret.events ∧ e.cycle = a ∧
    ∀ i : Fin 8, e.levels.getLsbD i = t.sampler.lines[i].qualified ∧ e.rising.getLsbD i = rising i ∧
      e.falling.getLsbD i = falling i) ∧
  ((∀ i, rising i = false ∧ falling i = false) → ∀ e, .event e ∈ t.ret.events → .event e ∈ s.ret.events)

/-! ## What falls amid a held list (R111, R154, R173, R180) -/

/-- A change of the GUARD pin's level is taken, a LINE trip where the pin becomes active (R103); of a FAULT, its WORD-FAULT
(log 23). -/
def amidTaken (s : State) : Amid → State
  | .guardChange =>
    let t : State := { s with pins := { s.pins with guardHigh := !s.pins.guardHigh } }
    if lineActive s = false then tripped .line t else t
  | .fault => { s with flags := s.flags ||| 0x0001 }

/-- A collected entry is a RESET-STATION that executes on a state (R156 to R158, R169): its code is 10h, its arguments are 0,
its tag is no duplicate, and a single-destination one finds a reply place. -/
def resetsStation (e : HeldEntry) (s : State) : Bool :=
  e.code == 0x10 && e.call.a0 == 0 && e.call.a1 == 0 && e.call.a2 == 0 && e.call.a3 == 0 &&
    match e.call.dest with
    | .single => (e.call.tag == 0 || e.call.tag != s.agent.stationTag) && decide (s.ret.replies.length < 8)
    | .group | .all => e.call.tag == 0 || e.call.tag != s.agent.groupTag

/-- A held list taken in slot order, each entry on the state that the entries before it and what fell before it left; what
falls after the last entry is taken at the end (R75, R154). A RESET-STATION that executes ends the list, and what falls among
the entries after it is taken all the same (R170, R173); any other entry lets the list go on, also a RESET-STATION that is
refused, a duplicate, or without a reply place. -/
def ranHeld : List HeldEntry → List (List Amid) → State → State
  | [], amid, s => amid.flatten.foldl amidTaken s
  | e :: es, amid, s =>
    let t := (amid.headD []).foldl amidTaken s
    let u := takeCommand e.code e.call t
    if resetsStation e t then amid.tail.flatten.foldl amidTaken u else ranHeld es amid.tail u

/-! ## What an asserted reset leaves of the delay line (R4, R78) -/

/-- The sum of the check changes of the slots at some places of the delay line whose first word has not left. -/
def withdrawnChange (cells : List Cell) : Word :=
  (cells.filterMap Cell.change).foldr (· + ·) 0

end Sys2Proof.Safety
end

