-- ==== Sys2Proof/WellFormed.lean ====
section
/-! DEFINITION. Which terms of Instr are commands the table's rows stand for. -/

namespace Sys2Proof

/-- The parameter numbers whose writes have a row of their own (R82, R83, R104, R146). -/
def hasOwnWriteRow (number : Word) : Bool :=
  number == 3 || number == 6 || (16 ≤ number.toNat && number.toNat ≤ 31)

/-- UNKNOWN_COMMAND carries a code of no kind: 00h or 11h to FFh (R13). WRITE_PARAM names no parameter whose write is a
row of its own. Every other term is well formed: its operand types admit only what the rules admit. -/
def WellFormed : Instr → Bool
  | .unknownCommand code _ => code.toNat = 0 || 17 ≤ code.toNat
  | .writeParam call => !hasOwnWriteRow call.a0
  | _ => true

end Sys2Proof
end

