-- ==== Sys2Proof/Certificates/Slice0/Obligations.lean ====
section
/-! DEFINITION. The statements for the provers. -/

open Sys2Proof Sys2Proof.Machine Sys2Proof.Safety

/-! ## The queue of commands -/

/-- MODEL'S CHOICE (log 4 for the empty queue). A step takes the command at the front of the queue and runs exec on it
with the queue's rest; on an empty queue it changes nothing. -/
def Obligations.StepRunsTheFrontCommand : Prop :=
  (∀ (c : Instr) (rest : List Instr) (s : State), step { s with pending := c :: rest } = exec c { s with pending := rest }) ∧
    ∀ s : State, s.pending = [] → step s = .next s

/-- No command touches the queue, and none stops the station. -/
def Obligations.EveryCommandCompletesAndKeepsTheQueue : Prop :=
  ∀ (i : Instr) (s : State), ∃ t, exec i s = .next t ∧ t.pending = s.pending

/-- MODEL'S CHOICE (log 2, 3, 20, 21). An event row or a command row taken where the station stands at no moment the row
belongs to changes nothing; a record row with nothing to send, or with the wrong resend mode, changes nothing (R134). -/
def Obligations.RowsOutsideTheirMomentChangeNothing : Prop :=
  ∀ s : State,
    (∀ i, commandRecord i ≠ none → atCompletion s = false → exec i s = .next s) ∧
    (atMarker s = false →
      (∀ m, exec (.planSwap m) s = .next s) ∧ exec .applyInstant s = .next s ∧ exec .retryExpiry s = .next s) ∧
    (windowReached s = false → exec .cycleMissed s = .next s) ∧
    (s.inReset = true ∨ follows s = false ∨ (∀ c, s.framer.cycle = some c → c.accepted = false ∨ c.status ≠ .running ∨
        c.checkFault = true ∨ c.pos + 1 ≠ 8 * c.slots + 3) → ∀ amid, exec (.cycleCompleted amid) s = .next s) ∧
    (offeredSlot s = none → exec .recordSent s = .next s ∧ exec .recordResent s = .next s) ∧
    (s.ret.resendAt ≠ none → exec .recordSent s = .next s) ∧ (s.ret.resendAt = none → exec .recordResent s = .next s) ∧
    (s.params.returnWindow.toNat ≤ s.ret.inFlight.length ∨ (s.ret.replies = [] ∧ s.ret.events = []) →
      exec .recordSent s = .next s)

/-! ## Resets, items and the forwarding path (chapter 1) -/

/-- POWER_UP (R3): an empty delay line that sends IDLE for the first 12 items, every pin floating, every block in its
reset state. RESET_PIN_ASSERTED (R5): every pin floats and every block but the forwarding path is in its reset state; the
delay line keeps the items that have arrived, and the other pins stay. MODEL'S CHOICE: POWER_UP keeps every pin level
(log 12); parameters and address stay until the release at an assertion, and POWER_UP gives the default parameters at once
(log 13); k and the item time are 0 (log 17, 18). -/
def Obligations.PowerUpAndResetPinHoldTheStation : Prop :=
  (∀ s : State, ∃ t, exec .powerUp s = .next t ∧ BlocksReset t ∧ t.inReset = true ∧
     t.fwd.line.length = 12 ∧ t.fwd.tx = .idle ∧
     (∀ items : List Item, items.length ≤ 12 → (items.foldl (fun f item => forwardItem item f) t.fwd).tx = .idle) ∧
     t.framer = ⟨.hunt, none, none, none, 0, 0, 0, none, none, none, 0⟩ ∧
     t.guard = ⟨.tripped, causeSet .start, 0, .start⟩ ∧ t.agent = ⟨s.agent.address, 0, none, 0⟩ ∧ t.params = defaults ∧
     t.pins = s.pins ∧ ∀ i : Fin 8, pinDrive t i = .floating) ∧
  (∀ s : State, ∃ t, exec .resetPinAsserted s = .next t ∧ BlocksReset t ∧ (∀ i : Fin 8, pinDrive t i = .floating) ∧
     t.framer = ⟨.hunt, none, none, none, 0, 0, 0, none, none, none, 0⟩ ∧
     t.guard = ⟨.tripped, causeSet .start, 0, .start⟩ ∧ t.agent = ⟨s.agent.address, 0, none, 0⟩ ∧ t.params = s.params ∧
     t.pins = { s.pins with resetLow := true } ∧ t.powerHold = s.powerHold ∧
     t.fwd.line.map Cell.arrived = s.fwd.line.map Cell.arrived ∧ t.fwd.tx = s.fwd.tx)

/-- HARDWARE_RESET (R6): the table of the state after a hardware reset, the address from the straps, the guard TRIPPED
with START (R107); after a held reset the delay line is kept as it stands. MODEL'S CHOICE: on a station that is not held the
row is a short assertion and its release (log 14); it ends the power-on hold as well (log 12); k and the item time are 0
(log 17, 18). -/
def Obligations.HardwareResetTakesTheTableOfResetStates : Prop :=
  ∀ (straps : BitVec 5) (s : State), ∃ t, exec (.hardwareReset straps) s = .next t ∧ BlocksReset t ∧
    t.inReset = false ∧ t.agent.address.toNat = straps.toNat + 1 ∧ t.agent.stationTag = 0 ∧ t.agent.stored = none ∧
    t.agent.groupTag = 0 ∧ t.framer = ⟨.hunt, none, none, none, 0, 0, 0, none, none, none, 0⟩ ∧
    t.guard = ⟨.tripped, causeSet .start, 0, .start⟩ ∧ t.params = defaults ∧
    t.pins = { s.pins with resetLow := false, straps := straps } ∧ t.powerHold = false ∧
    (s.inReset = true → t.fwd = s.fwd) ∧ ∀ i : Fin 8, pinDrive t i = .floating

/-- While the blocks are held in reset (R5): an item is forwarded and leaves no other trace, a GUARD pin change changes
nothing but the level, and no command executes; every other event finds nothing to act on. -/
def Obligations.HeldStationOnlyForwards : Prop :=
  ∀ s : State, s.inReset = true →
    (∀ (item : Item) (inputs : Byte), exec (.itemReceived item inputs []) s =
      .next { s with fwd := forwardItem item s.fwd, pins := { s.pins with inputs := inputs } }) ∧
    (∃ level, exec .guardPinActive s = .next { s with pins := { s.pins with guardHigh := level } }) ∧
    (∃ level, exec .guardPinInactive s = .next { s with pins := { s.pins with guardHigh := level } }) ∧
    ∀ i : Instr, (commandRecord i ≠ none ∨ (∃ p, i = .cycleCompleted p) ∨ i = .cycleMissed ∨ (∃ m, i = .planSwap m) ∨
      i = .applyInstant ∨ i = .recordSent ∨ i = .recordResent ∨ i = .retryExpiry) → exec i s = .next s

/-- Every item enters the delay line of 12 and the oldest leaves: a MARKER, an IDLE or a FAULT as it arrived, a WORD as
a WORD, with its own value unless its slot was rewritten or its trailer adjusted (R2). A FAULT taken amid the item is a
further item, with a shift of its own (log 23). -/
def Obligations.ForwardingShiftsOneItem : Prop :=
  ∀ (item : Item) (inputs : Byte) (amid : List (List Amid)) (s : State), .fault ∉ amid.flatten →
    s.fwd.line.length = 12 →
    ∃ t, exec (.itemReceived item inputs amid) s = .next t ∧ t.fwd.line.length = 12 ∧
      t.fwd.line.map Cell.arrived = (s.fwd.line.map Cell.arrived).tail ++ [item] ∧
      ∀ c, s.fwd.line.head? = some c → t.fwd.tx =
        match c.arrived with
        | .word v => .word (c.rewritten.getD v + c.adjust)
        | .marker => .marker
        | .idle => .idle
        | .fault => .fault

/-- An item that is no item of an accepted cycle is only shifted in: nothing in the delay line is rewritten or adjusted
for it (R2, R59) but for a trailer kept through a reset, which is part of the shift (R4; log 16). No command record, no
marker-time row and no pin change reaches the delay line. MODEL'S CHOICE: nor does CYCLE_COMPLETED, whose items are rows of
their own, also with a FAULT amid it (log 20). No command record touches the framer, the delay line, the pins or the
address; a station reset leaves the framer unchanged (R19, R150, R169). -/
def Obligations.OnlyAcceptedCyclesAreRewritten : Prop :=
  ((∀ (item : Item) (inputs : Byte) (amid : List (List Amid)) (s : State), .fault ∉ amid.flatten →
     (∀ c, s.framer.cycle = some c → c.accepted = true → s.framer.judging ≠ none) →
     ∃ t, exec (.itemReceived item inputs amid) s = .next t ∧ t.fwd = forwardItem item s.fwd) ∧
   ∀ (i : Instr) (s : State), (commandRecord i ≠ none ∨ (∃ p, i = .cycleCompleted p) ∨ i = .cycleMissed ∨
       (∃ m, i = .planSwap m) ∨ i = .applyInstant ∨ i = .guardPinActive ∨ i = .guardPinInactive ∨ i = .retryExpiry) →
     ∃ t, exec i s = .next t ∧ t.fwd = s.fwd) ∧
  (∀ (i : Instr) (s : State), commandRecord i ≠ none → ∃ t, exec i s = .next t ∧ t.framer = s.framer ∧ t.fwd = s.fwd ∧
     t.pins = s.pins ∧ t.powerHold = s.powerHold ∧ t.agent.address = s.agent.address)

/-- Every FAULT item sets WORD-FAULT, in every acquisition state, unless the blocks are held in reset (R1). A flag that
is set stays set through every command but CLEAR-STATUS, RESET-STATION and the resets, and a completion whose held list
holds neither of those two (R178). -/
def Obligations.FaultSetsWordFaultAndFlagsAreSticky : Prop :=
  (∀ (inputs : Byte) (amid : List (List Amid)) (s : State), ∃ t, exec (.itemReceived .fault inputs amid) s = .next t ∧
     (s.inReset = false → t.flags.getLsbD 0 = true) ∧ (s.inReset = true → t.flags = s.flags)) ∧
  (∀ (i : Instr) (place : Nat) (s t : State), WellFormed i = true → exec i s = .next t →
     s.flags.getLsbD place = true → (∀ c, i ≠ .clearStatus c ∧ i ≠ .resetStation c) → i ≠ .powerUp →
     i ≠ .resetPinAsserted → (∀ straps, i ≠ .hardwareReset straps) →
     (∀ e ∈ s.engine.held, e.code ≠ 0x0A ∧ e.code ≠ 0x10) → t.flags.getLsbD place = true)

/-- The check change of a slot that arrived undamaged is the sum of its arrived words 0 to 6 minus the sum of its new
ones (R62), and the new check makes the slot undamaged. A slot of WORDs decided to leave rewritten leaves as its eight
new words, whole; the items before it in the delay line and what arrived stay (R60, R62). -/
def Obligations.RewrittenSlotLeavesWholeWithItsCheckChange : Prop :=
  (∀ (n : Nat) (sl : Slot) (header : Word) (p : Vector Word 6), Undamaged n sl →
     slotCheck header p - sl.check =
       (sl.header + sl.payload[0] + sl.payload[1] + sl.payload[2] + sl.payload[3] + sl.payload[4] + sl.payload[5])
         - (header + p[0] + p[1] + p[2] + p[3] + p[4] + p[5]) ∧
     slotDamaged (slotNumber header) ⟨header, p, slotCheck header p⟩ = false) ∧
  (∀ (f : Forward) (words : List Word) (change : Word), f.line.length = 12 → words.length = 8 →
     (∀ c ∈ f.line.drop 4, (∃ v, c.arrived = .word v) ∧ c.adjust = 0) →
     ((rewriteSlot words change f).line.drop 4).map leavingItem = words.map Item.word ∧
       (rewriteSlot words change f).line.take 4 = f.line.take 4 ∧
       (rewriteSlot words change f).line.map Cell.arrived = f.line.map Cell.arrived ∧
       (rewriteSlot words change f).tx = f.tx)

/-- At the trailer position of an accepted cycle a WORD leaves with the cycle's net check change added, and any other
item as it arrived; the rest of the delay line is shifted and no more (R73). `kept` empty: no earlier reset left a
trailer to adjust (R4). -/
def Obligations.TrailerLeavesWithTheNetCheckChange : Prop :=
  ∀ (c : Cycle) (item : Item) (inputs : Byte) (amid : List (List Amid)) (s : State), .fault ∉ amid.flatten →
    s.inReset = false →
    s.framer.judging = none → s.framer.cycle = some c → c.accepted = true → c.pos + 1 = 8 * c.slots + 3 →
    s.fwd.kept = [] →
    ∃ t, exec (.itemReceived item inputs amid) s = .next t ∧
      t.fwd.line.getLast?.map leavingItem = some (match item with
        | .word v => .word (v + c.net)
        | .marker => .marker
        | .idle => .idle
        | .fault => .fault) ∧
      t.fwd.line.dropLast = (forwardItem item s.fwd).line.dropLast

/-- RESET_PIN_ASSERTED in the middle of the ring's stream (R4, R78). A slot whose first rewritten word has not left leaves as
it arrived; the places before the first such slot stay as decided, so that a slot that has begun to leave finishes. A
trailer already in the delay line is no longer adjusted for the slots of its cycle that are withdrawn. Of the cycle being
counted the trailer position and the net change of its slots that were sent rewritten are kept; slots of earlier cycles have
no part in it. HARDWARE_RESET on a station not held does the same (log 14). A kept trailer position counts the items that
arrive, and the item at it leaves with the change added if it is a WORD, as it arrived if not; also where that WORD belongs
to a later cycle (log 16). -/
def Obligations.AssertedResetFinishesWhatHasBegunToLeave : Prop :=
  (∀ s : State, ∃ t, exec .resetPinAsserted s = .next t ∧
     let places := s.fwd.line
     (∀ (p i : Nat) (head c : Cell), places[p]? = some head → head.change ≠ none →
       (∀ (j : Nat) (d : Cell), 1 ≤ j → j < 8 → places[p + j]? = some d → d.change = none) → i < 8 →
       places[p + i]? = some c → t.fwd.line[p + i]? = some { c with rewritten := none, change := none }) ∧
     (∀ p : Nat, (∀ c ∈ places.take (p + 1), c.change = none) → t.fwd.line[p]? = places[p]?) ∧
     (∀ (q : Nat) (c : Cell), places[q]? = some c → c.trailer = true → c.change = none →
       (∀ d ∈ places.take q, d.trailer = false) → (∀ d ∈ (places.take q).drop (q - 7), d.change = none) →
       t.fwd.line[q]? = some { c with adjust := c.adjust - withdrawnChange (places.take q) }) ∧
     (s.framer.cycle = none → t.fwd.kept = s.fwd.kept) ∧
     (∀ c, s.framer.cycle = some c →
       let sent := c.net - withdrawnChange (places.drop (places.length - (c.pos + 1)))
       t.fwd.kept = s.fwd.kept ++ if sent = 0 then [] else [⟨8 * c.slots + 3 - c.pos, sent⟩]) ∧
     ∀ straps, s.inReset = false → ∃ u, exec (.hardwareReset straps) s = .next u ∧ u.fwd = t.fwd) ∧
  (∀ (n : Nat) (w : Word) (item : Item) (inputs : Byte) (s : State), 0 < n → s.fwd.kept = [⟨n, w⟩] →
     (s.inReset = true ∨ ∀ c, s.framer.cycle = some c → c.accepted = true → s.framer.judging ≠ none) →
     ∃ t, exec (.itemReceived item inputs []) s = .next t ∧
       (1 < n → t.fwd.kept = [⟨n - 1, w⟩] ∧ t.fwd.line.getLast?.map leavingItem = some item) ∧
       (n = 1 → t.fwd.kept = [] ∧ t.fwd.line.getLast?.map leavingItem = some (match item with
         | .word v => .word (v + w)
         | .marker => .marker
         | .idle => .idle
         | .fault => .fault)))

/-! ## Finding and holding the cycle (chapter 2) -/

/-- In HUNT an item that is no MARKER leaves the framer as it was, and every MARKER begins to be judged (R21, R22). A
marker judged in HUNT, at its header words (R9, R20, R22, R23): header word A is kept; a valid header enters CONFIRM
with the marker as candidate, count 0, no reference and N from P2; one that is not valid leaves the framer in HUNT. A
MARKER at position 1 or 2 ends the first one's header and is judged itself (R20). A MARKER in HUNT inside a spoiled cycle that
is still counted after a link loss ends that cycle and is judged, no stray one; the slot it cuts short is damaged and counted
(R30, R36, R60, R61). -/
def Obligations.HuntJudgesMarkersAndEntersConfirm : Prop :=
  (∀ (item : Item) (inputs : Byte) (s : State), s.inReset = false → s.framer.acquisition = .hunt →
     s.framer.judging = none → s.framer.cycle = none →
     (item ≠ .marker → exec (.itemReceived item inputs []) s = .next (afterItem item inputs s)) ∧
     exec (.itemReceived .marker inputs []) s = .next { afterItem .marker inputs s with framer := { s.framer with
       now := s.framer.now + 1, judging := some ⟨s.framer.now + 1, .search, none⟩, cycle := none } }) ∧
  (∀ (time : Nat) (a : Word) (inputs : Byte) (s : State), s.inReset = false →
     (s.framer.judging = some ⟨time, .search, none⟩ →
       exec (.itemReceived (.word a) inputs []) s = .next { afterItem (.word a) inputs s with framer := { s.framer with
         now := s.framer.now + 1, judging := some ⟨time, .search, some a⟩ } }) ∧
     (s.framer.judging = some ⟨time, .search, some a⟩ → ∀ b,
       (HeaderOk a b → exec (.itemReceived (.word b) inputs []) s = .next { afterItem (.word b) inputs s with
         framer := { s.framer with
           now := s.framer.now + 1, acquisition := .confirm, reference := none, slotCount := some (slotsOf b),
           candidate := some ⟨a, time, slotsOf b, 0, if s.params.quickConfirm = 1 then 1 else 3⟩, judging := none,
           cycle := some (opened false a b) } }) ∧
       (¬ HeaderOk a b → exec (.itemReceived (.word b) inputs []) s = .next { afterItem (.word b) inputs s with
         framer := { s.framer with
           now := s.framer.now + 1, acquisition := .hunt, reference := none, slotCount := none, candidate := none,
           judging := none, cycle := none } })) ∧
     (∀ headerA, s.framer.judging = some ⟨time, .search, headerA⟩ →
       (∀ item, item = .idle ∨ item = .fault → exec (.itemReceived item inputs []) s =
         .next { afterItem item inputs s with framer := hunting none s.framer }) ∧
       exec (.itemReceived .marker inputs []) s = .next { afterItem .marker inputs s with
         framer := hunting (some ⟨s.framer.now + 1, .search, none⟩) s.framer })) ∧
  (∀ (c : Cycle) (inputs : Byte) (s : State), s.inReset = false → s.framer.acquisition = .hunt → s.framer.judging = none →
     s.framer.cycle = some c → c.accepted = true → c.status = .spoiled → 2 ≤ c.pos →
     let judged : State := { afterItem .marker inputs s with framer := { s.framer with
       now := s.framer.now + 1, judging := some ⟨s.framer.now + 1, .search, none⟩, cycle := none } }
     (c.pos + 1 < 8 * c.slots + 3 → exec (.itemReceived .marker inputs []) s = .next (damagedSlot judged)) ∧
     (c.pos + 1 = 8 * c.slots + 3 → exec (.itemReceived .marker inputs []) s = .next judged))

/-- A candidate's items (R24). A WORD or FAULT before the trailer position moves the position on, and at a slot check a WORD
enters the cycle check and a FAULT keeps the trailer from checking. The good-cycle count grows by 1 at a trailer that is the
cycle check over the slot checks, all of them WORDs; another item at the trailer position but a MARKER, or an IDLE before
it, sends the framer to HUNT; a MARKER inside the candidate ends it and begins to be judged. MODEL'S CHOICE: a FAULT at a
slot check fails the candidate at its trailer (log 15); after a MARKER the candidate, S and the reference stand until that
MARKER has been judged (log 24). -/
def Obligations.CandidateCompletesOrFails : Prop :=
  ∀ (c : Cycle) (k : Candidate) (inputs : Byte) (s : State), s.inReset = false → s.framer.judging = none →
    s.framer.cycle = some c → c.accepted = false → s.framer.candidate = some k →
    (∀ item, (∃ v, item = .word v) ∨ item = .fault → 2 ≤ c.pos → c.pos + 1 < 8 * c.slots + 3 → (c.pos + 1) % 8 ≠ 2 →
      exec (.itemReceived item inputs []) s = .next { afterItem item inputs s with framer := { s.framer with
        now := s.framer.now + 1, cycle := some { c with pos := c.pos + 1 } } }) ∧
    (2 ≤ c.pos → c.pos + 1 < 8 * c.slots + 3 → (c.pos + 1) % 8 = 2 →
      (∀ v, exec (.itemReceived (.word v) inputs []) s = .next { afterItem (.word v) inputs s with
        framer := { s.framer with
          now := s.framer.now + 1, cycle := some { c with pos := c.pos + 1, sum := c.sum + v } } }) ∧
      exec (.itemReceived .fault inputs []) s = .next { afterItem .fault inputs s with framer := { s.framer with
        now := s.framer.now + 1, cycle := some { c with pos := c.pos + 1, checkFault := true } } }) ∧
    (c.pos + 1 = 8 * c.slots + 3 → c.checkFault = false →
      exec (.itemReceived (.word c.sum) inputs []) s = .next { afterItem (.word c.sum) inputs s with
        framer := { s.framer with
          now := s.framer.now + 1, candidate := some { k with good := k.good + 1 }, cycle := none } }) ∧
    (∀ item, item ≠ .marker → (c.pos + 1 = 8 * c.slots + 3 ∧ (item ≠ .word c.sum ∨ c.checkFault = true)) ∨
        (c.pos + 1 < 8 * c.slots + 3 ∧ item = .idle) →
      exec (.itemReceived item inputs []) s = .next { afterItem item inputs s with framer := hunting none s.framer }) ∧
    exec (.itemReceived .marker inputs []) s = .next { afterItem .marker inputs s with framer := { s.framer with
      now := s.framer.now + 1, judging := some ⟨s.framer.now + 1, .search, none⟩, cycle := none } }

/-- The MARKER after a completed candidate, at its header words (R20, R25). Header word A is kept. A valid header below the
target: with the successor's number, the same S and an acceptable spacing it is the new candidate, the reference being the
spacing just measured or the one held; with any of these wrong CONFIRM restarts on it (R23). A header that is not valid
sends the framer to HUNT, and a MARKER at position 1 or 2 is then judged itself. -/
def Obligations.SuccessorIsTheNewCandidateOrARestart : Prop :=
  (∀ (k : Candidate) (time : Nat) (a b : Word) (inputs : Byte) (s : State), s.inReset = false →
     s.framer.judging = some ⟨time, .successor, some a⟩ → s.framer.candidate = some k → k.time ≤ time → HeaderOk a b →
     let passes : Prop := a = k.number + 1 ∧ slotsOf b = k.slots ∧ time - k.time ≤ 250000 ∧
       ∀ r, s.framer.reference = some r → r - 4 ≤ time - k.time ∧ time - k.time ≤ r + 4
     (passes → k.good < k.target →
       exec (.itemReceived (.word b) inputs []) s = .next { afterItem (.word b) inputs s with framer := { s.framer with
         now := s.framer.now + 1, reference := some (s.framer.reference.getD (time - k.time)),
         candidate := some { k with number := a, time := time }, judging := none, cycle := some (opened false a b) } }) ∧
     (¬ passes →
       exec (.itemReceived (.word b) inputs []) s = .next { afterItem (.word b) inputs s with framer := { s.framer with
         now := s.framer.now + 1, acquisition := .confirm, reference := none, slotCount := some (slotsOf b),
         candidate := some ⟨a, time, slotsOf b, 0, if s.params.quickConfirm = 1 then 1 else 3⟩, judging := none,
         cycle := some (opened false a b) } })) ∧
  (∀ (time : Nat) (headerA : Option Word) (inputs : Byte) (s : State), s.inReset = false →
     s.framer.judging = some ⟨time, .successor, headerA⟩ →
     (∀ a, headerA = none → exec (.itemReceived (.word a) inputs []) s = .next { afterItem (.word a) inputs s with
       framer := { s.framer with now := s.framer.now + 1, judging := some ⟨time, .successor, some a⟩ } }) ∧
     (∀ a b, headerA = some a → ¬ HeaderOk a b → exec (.itemReceived (.word b) inputs []) s =
       .next { afterItem (.word b) inputs s with framer := hunting none s.framer }) ∧
     (∀ item, item = .idle ∨ item = .fault → exec (.itemReceived item inputs []) s =
       .next { afterItem item inputs s with framer := hunting none s.framer }) ∧
     exec (.itemReceived .marker inputs []) s = .next { afterItem .marker inputs s with
       framer := hunting (some ⟨s.framer.now + 1, .search, none⟩) s.framer })

/-- The marker that passes R25 with the target reached enters LOCKED and is accepted (R26, R30): swap, apply instant, sample
and retry test are taken at it as at any accepted marker, and with room in the event queue its LOCK-GAINED alert is queued;
every record that waited still waits. -/
def Obligations.PassingMarkerEntersLocked : Prop :=
  ∀ (k : Candidate) (time : Nat) (a b : Word) (inputs : Byte) (s : State), s.inReset = false →
    s.framer.judging = some ⟨time, .successor, some a⟩ → s.framer.candidate = some k → k.time ≤ time → HeaderOk a b →
    a = k.number + 1 → slotsOf b = k.slots → time - k.time ≤ 250000 →
    (∀ r, s.framer.reference = some r → r - 4 ≤ time - k.time ∧ time - k.time ≤ r + 4) → k.target ≤ k.good →
    ∃ t, exec (.itemReceived (.word b) inputs []) s = .next t ∧
      t.framer = { s.framer with
        now := s.framer.now + 1, acquisition := .locked,
        reference := some (s.framer.reference.getD (time - k.time)), last := some ⟨a, time⟩, failures := 0,
        position := 1, acceptedCount := s.framer.acceptedCount + 1, candidate := none, judging := none,
        cycle := some (opened true a b) } ∧
      (s.ret.events.length ≤ 12 → .alert ⟨.lockGained, a, 0, 0⟩ ∈ t.ret.events) ∧
      MarkerTaken a b (s.framer.acceptedCount + 1) inputs s t

/-- The expected marker, judged in its window, at its header word B (R28, R30): the cycle is accepted and k returns to 1;
the swap with PLAN-COMMITTED (R51, R52), the apply instant (R85), the sample (R117, R118) and the retry test with
RETURN-ABANDONED and ABANDONED (R137 to R141) are taken, on empty staging and held list (R58). -/
def Obligations.ExpectedMarkerIsAccepted : Prop :=
  ∀ (m : Marker) (time : Nat) (b : Word) (inputs : Byte) (s : State), s.inReset = false →
    s.framer.last = some m →
    let a := m.number + BitVec.ofNat 16 s.framer.position
    s.framer.judging = some ⟨time, .window, some a⟩ → HeaderOk a b → s.framer.slotCount = some (slotsOf b) →
    ∃ t, exec (.itemReceived (.word b) inputs []) s = .next t ∧
      t.framer = { s.framer with
        now := s.framer.now + 1, last := some ⟨a, time⟩, position := 1, acceptedCount := s.framer.acceptedCount + 1,
        judging := none, cycle := some (opened true a b) } ∧
      MarkerTaken a b (s.framer.acceptedCount + 1) inputs s t

/-- The EVENT of a sample (R116, R120 to R123, R128): it is queued at the accepted marker when an input has an edge its mode
names and the queue has room for all that one marker can raise, with the marker's number, the qualified levels and the
edges. So at the expected marker, and at the marker of locking or relocking, where LOCK-GAINED may take one place more. -/
def Obligations.SampleWithAnEdgeQueuesItsEvent : Prop :=
  (∀ (m : Marker) (time : Nat) (b : Word) (inputs : Byte) (s t : State), s.inReset = false →
     s.framer.last = some m →
     let a := m.number + BitVec.ofNat 16 s.framer.position
     s.framer.judging = some ⟨time, .window, some a⟩ → HeaderOk a b → s.framer.slotCount = some (slotsOf b) →
     exec (.itemReceived (.word b) inputs []) s = .next t → SampleRaisesItsEvent a 11 s t) ∧
  (∀ (k : Candidate) (time : Nat) (a b : Word) (inputs : Byte) (s t : State), s.inReset = false →
     s.framer.judging = some ⟨time, .successor, some a⟩ → s.framer.candidate = some k → k.time ≤ time → HeaderOk a b →
     a = k.number + 1 → slotsOf b = k.slots → time - k.time ≤ 250000 →
     (∀ r, s.framer.reference = some r → r - 4 ≤ time - k.time ∧ time - k.time ≤ r + 4) → k.target ≤ k.good →
     exec (.itemReceived (.word b) inputs []) s = .next t → SampleRaisesItsEvent a 10 s t)

/-- A marker judged in its window (R20, R28, R29, R33): header word A is kept; it is refused by a header item that is no
WORD, a MARKER there being stray too, or at header word B by a header not valid, a wrong number or another S. The cycle is
then missed: MISSED, k, the ready levels (R86) and a failure (R34 to R36). Between cycles in LOCKED and COASTING (R21, R27
to R29): a MARKER outside the current window is stray and changes nothing but STRAY-MARKER; a MARKER inside it begins to be
judged; any other item before the window's last changes nothing; at the window's last item the cycle is missed as by
CYCLE_MISSED. -/
def Obligations.WindowsJudgeRefuseAndCloseOnMarkers : Prop :=
  (∀ (m : Marker) (time : Nat) (headerA : Option Word) (item : Item) (inputs : Byte) (s : State), s.inReset = false →
     follows s = true → s.framer.last = some m → s.framer.judging = some ⟨time, .window, headerA⟩ →
     (∀ a, headerA = none → item = .word a → exec (.itemReceived item inputs []) s = .next { afterItem item inputs s with
       framer := { s.framer with now := s.framer.now + 1, judging := some ⟨time, .window, some a⟩ } }) ∧
     (item = .idle ∨ item = .fault ∨ item = .marker ∨ (∃ a b, headerA = some a ∧ item = .word b ∧ (¬ HeaderOk a b ∨
         a ≠ m.number + BitVec.ofNat 16 s.framer.position ∨ s.framer.slotCount ≠ some (slotsOf b))) →
       ∃ t, exec (.itemReceived item inputs []) s = .next t ∧ Fails (missed (afterStray item inputs s)) t)) ∧
  (∀ (m : Marker) (r : Nat) (item : Item) (inputs : Byte) (s : State), s.inReset = false → follows s = true →
     s.framer.judging = none → s.framer.cycle = none → s.framer.last = some m → s.framer.reference = some r →
     let now := s.framer.now + 1
     let expected := m.time + s.framer.position * r
     (now + 4 < expected ∨ expected + 4 < now → exec (.itemReceived .marker inputs []) s =
       .next { afterItem .marker inputs s with flags := s.flags ||| 0x0008 }) ∧
     (expected ≤ now + 4 ∧ now ≤ expected + 4 → exec (.itemReceived .marker inputs []) s =
       .next { afterItem .marker inputs s with framer := { s.framer with
         now := now, judging := some ⟨now, .window, none⟩, cycle := none } }) ∧
     (item ≠ .marker → now ≠ expected + 4 → exec (.itemReceived item inputs []) s = .next (afterItem item inputs s)) ∧
     (item ≠ .marker → now = expected + 4 →
       exec (.itemReceived item inputs []) s = exec .cycleMissed (afterItem item inputs s)))

/-- CYCLE_MISSED (R33 to R36, R38, R86, R105). The window having been reached, k and MISSED grow by 1 and the ready
levels go. In LOCKED F becomes 1 and the framer coasts; in COASTING F grows by 1, and above P1 the link is lost: HUNT,
no reference, no S, F and k 0, LINK-LOST and a LINK trip, in either order (log 8). MODEL'S CHOICE: the row may be taken
from the window's begin on (log 20), where R33 has the miss at the window's closing or at a refusal. -/
def Obligations.MissedCycleCoastsOrLosesTheLink : Prop :=
  ∀ (m : Marker) (r : Nat) (s : State), s.inReset = false → s.framer.cycle = none → s.framer.last = some m →
    s.framer.reference = some r → m.time + s.framer.position * r ≤ s.framer.now + 4 →
    let counted : State := { readyDropped s with counters := { s.counters with missed := bump s.counters.missed 1 } }
    (s.framer.acquisition = .locked → exec .cycleMissed s = .next { counted with framer := { s.framer with
      position := s.framer.position + 1, judging := none, acquisition := .coasting, failures := 1 } }) ∧
    (s.framer.acquisition = .coasting → s.framer.failures + 1 ≤ s.params.coastLimit.toNat →
      exec .cycleMissed s = .next { counted with framer := { s.framer with
        position := s.framer.position + 1, judging := none, failures := s.framer.failures + 1 } }) ∧
    (s.framer.acquisition = .coasting → s.params.coastLimit.toNat < s.framer.failures + 1 →
      let lost : State := { counted with framer := { s.framer with
        acquisition := .hunt, reference := none, slotCount := none, failures := 0, position := 0, judging := none } }
      exec .cycleMissed s = .next { tripped .link (alerted .linkLost m.number 0 0 lost) with choice := s.choice + 1 } ∨
      exec .cycleMissed s = .next { alerted .linkLost m.number 0 0 (tripped .link lost) with choice := s.choice + 1 })

/-- What spoils an accepted cycle in LOCKED and COASTING (R29, R32): an IDLE or a MARKER before the trailer position, and at
it anything but the cycle check over slot checks that were all WORDs. Staging and held list go, BAD-TRAILER, MISSED and a
failure (R34 to R36, R38, R76); a MARKER is stray too; at a slot check the slot is damaged (R61); at the trailer position
the cycle ends and a WORD leaves adjusted (R73). A FAULT at a slot check spoils nothing yet, but then no trailer checks. The
item at the trailer position of a cycle already spoiled, also after a link loss, ends it and no more: no completion, whatever
the item, and no second failure (R30 to R32, R36, R73); in LOCKED and COASTING a MARKER there is stray (R29). -/
def Obligations.ItemsSpoilAnAcceptedCycle : Prop :=
  (∀ (c : Cycle) (item : Item) (inputs : Byte) (s : State), s.inReset = false → follows s = true →
    s.framer.judging = none → s.framer.cycle = some c → c.accepted = true → c.status = .running → 2 ≤ c.pos →
    let arrived := afterStray item inputs s
    (item = .idle ∨ item = .marker → c.pos + 1 < 8 * c.slots + 3 → (c.pos + 1) % 8 ≠ 2 →
      ∃ t, exec (.itemReceived item inputs []) s = .next t ∧ Fails (spoiled { c with pos := c.pos + 1 } arrived) t) ∧
    (item = .idle ∨ item = .marker → c.pos + 1 < 8 * c.slots + 3 → (c.pos + 1) % 8 = 2 →
      ∃ t, exec (.itemReceived item inputs []) s = .next t ∧
        Fails (damagedSlot (spoiled { c with pos := c.pos + 1, checkFault := true } arrived)) t) ∧
    (c.pos + 1 = 8 * c.slots + 3 → item ≠ .word c.sum ∨ c.checkFault = true →
      ∃ t, exec (.itemReceived item inputs []) s = .next t ∧
        Fails { spoiled c arrived with
          fwd := adjustTrailer c.net (forwardItem item s.fwd)
          framer := { s.framer with now := s.framer.now + 1, cycle := none } } t) ∧
    (item = .fault → c.pos + 1 < 8 * c.slots + 3 → (c.pos + 1) % 8 = 2 →
      exec (.itemReceived item inputs []) s = .next (damagedSlot { arrived with framer := { s.framer with
        now := s.framer.now + 1, cycle := some { c with pos := c.pos + 1, checkFault := true } } }))) ∧
  (∀ (c : Cycle) (item : Item) (inputs : Byte) (s : State), s.inReset = false → s.framer.judging = none →
    s.framer.cycle = some c → c.accepted = true → c.status = .spoiled → c.pos + 1 = 8 * c.slots + 3 →
    (item = .marker → follows s = true) →
    exec (.itemReceived item inputs []) s = .next { afterStray item inputs s with
      fwd := adjustTrailer c.net (forwardItem item s.fwd)
      framer := { s.framer with now := s.framer.now + 1, cycle := none } })

/-- The trailer that is the cycle check, over slot checks that were all WORDs, completes the running cycle (R31, R34,
R35, R73 to R75): LOCKED, F 0, each staged level ready, the trailer adjusted, and the held list taken in slot order with what
falls amid it (R154), up to a RESET-STATION that executes (R170); the FAULT items that fell amid it then arrive (log 23). -/
def Obligations.CorrectTrailerCompletesTheCycle : Prop :=
  ∀ (c : Cycle) (inputs : Byte) (amid : List (List Amid)) (s : State), s.inReset = false → follows s = true →
    s.framer.judging = none → s.framer.cycle = some c → c.accepted = true → c.status = .running → c.checkFault = false →
    c.pos + 1 = 8 * c.slots + 3 →
    let ready : State := { afterItem (.word c.sum) inputs s with
      fwd := adjustTrailer c.net (forwardItem (.word c.sum) s.fwd)
      framer := { s.framer with now := s.framer.now + 1, acquisition := .locked, failures := 0, cycle := none }
      channels := Vector.ofFn fun i => { s.channels[i] with
        ready := if s.channels[i].staged = none then s.channels[i].ready else s.channels[i].staged
        staged := none } }
    let ran := ranHeld s.engine.held amid ready
    exec (.itemReceived (.word c.sum) inputs amid) s =
      .next (laterFaults (amid.flatten.count .fault) { ran with engine := { ran.engine with held := [] } })

/-- CYCLE_COMPLETED (R31, R74, R75, R154), with the trailer due: LOCKED, F 0, staging made ready, and the held list's
entries taken in slot order, each on the state the entries before it left. What falls amid the list is taken whole before
the entry it comes before, or at the end: a GUARD pin change with the trip it may be (R111), of a FAULT its WORD-FAULT (R180;
log 23). A command row at a completion is the agent's taking of that one entry. A RESET-STATION that executes ends the held
list: the entries after it do nothing, and what falls among them is taken all the same (R170, R173). One that is refused, a
duplicate, or without a reply place lets the list go on, as does every other command (R155 to R158, R169). MODEL'S CHOICE:
the row is taken with the trailer only due and marks the cycle completed (log 20); a command row stands for one entry at a
completion (log 3). -/
def Obligations.CompletionRunsTheHeldListInSlotOrder : Prop :=
  ((∀ (c : Cycle) (amid : List (List Amid)) (s : State), s.inReset = false → follows s = true →
     s.framer.cycle = some c → c.accepted = true → c.status = .running → c.checkFault = false →
     c.pos + 1 = 8 * c.slots + 3 →
     let ready : State := { s with
       framer := { s.framer with acquisition := .locked, failures := 0, cycle := some { c with status := .completed } }
       channels := Vector.ofFn fun i => { s.channels[i] with
         ready := if s.channels[i].staged = none then s.channels[i].ready else s.channels[i].staged
         staged := none } }
     let ran := ranHeld s.engine.held amid ready
     exec (.cycleCompleted amid) s = .next { ran with engine := { ran.engine with held := [] } }) ∧
   ∀ (i : Instr) (code : Byte) (c : Call) (s : State), commandRecord i = some (code, c) → atCompletion s = true →
     exec i s = .next (takeCommand code c s)) ∧
  (∀ (e : HeldEntry) (rest : List HeldEntry) (amid : List (List Amid)) (s : State), e.code = 0x10 →
     NoArguments e.call →
     let t := (amid.headD []).foldl amidTaken s
     Executes e.call.dest e.call.tag t →
     runHeld (e :: rest) amid s = amid.tail.flatten.foldl amidTaken (takeCommand e.code e.call t)) ∧
  (∀ (e : HeldEntry) (rest : List HeldEntry) (amid : List (List Amid)) (s : State), s.inReset = false →
     let t := (amid.headD []).foldl amidTaken s
     e.code ≠ 0x10 ∨ ¬ NoArguments e.call ∨
       (e.call.dest = .single ∧ (e.call.tag ≠ 0 ∧ e.call.tag = t.agent.stationTag ∨ 8 ≤ t.ret.replies.length)) ∨
       (e.call.dest ≠ .single ∧ e.call.tag ≠ 0 ∧ e.call.tag = t.agent.groupTag) →
     runHeld (e :: rest) amid s = runHeld rest amid.tail (takeCommand e.code e.call t))

/-! ## The slot plan (chapter 3) -/

/-- PLAN_SWAP (R51, R52): at a marker at or after the target the banks swap, the commit is gone and PLAN-COMMITTED is
raised with M, the new active bank and T; before the target, or with no commit pending, nothing changes. -/
def Obligations.SwapAtOrAfterTheTarget : Prop :=
  ∀ (number : Word) (s : State), atMarker s = true →
    (∀ target, s.plan.commit = some target → (number - target).toNat ≤ 32767 →
      (s.plan.active = .zero → exec (.planSwap number) s =
        .next (alerted .planCommitted number 1 target { s with plan := { s.plan with active := .one, commit := none } })) ∧
      (s.plan.active = .one → exec (.planSwap number) s =
        .next (alerted .planCommitted number 0 target { s with plan := { s.plan with active := .zero, commit := none } }))) ∧
    (∀ target, s.plan.commit = some target → 32768 ≤ (number - target).toNat → exec (.planSwap number) s = .next s) ∧
    (s.plan.commit = none → exec (.planSwap number) s = .next s)

/-- WRITE-ENTRY (R44, R45, R57). -/
def Obligations.WriteEntryReplacesAStandbyEntry : Prop :=
  ∀ (c : Call) (s : State), Executes c.dest c.tag s →
    let admitted : Entry → Prop := fun e =>
      c.a0.toNat ≤ 127 ∧ c.a1 = actionCode e ∧ c.a2 = wordCode e ∧ c.a3 = optionCode e
    (∀ e, admitted e → s.plan.commit = none →
      (s.plan.active = .zero → exec (.writeEntry c) s = .next (ending c.dest c.tag 0x05 .done c.a0 c.a1 1
        { s with plan := { s.plan with bank1 := s.plan.bank1.setIfInBounds c.a0.toNat e } })) ∧
      (s.plan.active = .one → exec (.writeEntry c) s = .next (ending c.dest c.tag 0x05 .done c.a0 c.a1 0
        { s with plan := { s.plan with bank0 := s.plan.bank0.setIfInBounds c.a0.toNat e } }))) ∧
    (∀ e target, admitted e → s.plan.commit = some target →
      exec (.writeEntry c) s = .next (ending c.dest c.tag 0x05 .pending target 0 0 s)) ∧
    ((∀ e, ¬ admitted e) → exec (.writeEntry c) s = .next (ending c.dest c.tag 0x05 .range 0 0 0 s))

/-- The codes of R44: a row's codes name exactly one entry, and codes that name an entry are that entry's codes. -/
def Obligations.EntryCodesNameTheirEntryAndNoOther : Prop :=
  (∀ e : Entry, entryOfArgs (actionCode e) (wordCode e) (optionCode e) = some e) ∧
    ∀ (a1 a2 a3 : Word) (e : Entry), entryOfArgs a1 a2 a3 = some e →
      a1 = actionCode e ∧ a2 = wordCode e ∧ a3 = optionCode e

/-- COPY-ACTIVE (R46, R57). -/
def Obligations.CopyActiveOverwritesTheStandbyBank : Prop :=
  ∀ (c : Call) (s : State), Executes c.dest c.tag s →
    (NoArguments c → s.plan.commit = none →
      (s.plan.active = .zero → exec (.copyActive c) s =
        .next (ending c.dest c.tag 0x06 .done 1 0 0 { s with plan := { s.plan with bank1 := s.plan.bank0 } })) ∧
      (s.plan.active = .one → exec (.copyActive c) s =
        .next (ending c.dest c.tag 0x06 .done 0 0 0 { s with plan := { s.plan with bank0 := s.plan.bank1 } }))) ∧
    (∀ target, NoArguments c → s.plan.commit = some target →
      exec (.copyActive c) s = .next (ending c.dest c.tag 0x06 .pending target 0 0 s)) ∧
    (¬ NoArguments c → exec (.copyActive c) s = .next (ending c.dest c.tag 0x06 .range 0 0 0 s))

/-- READ-ENTRY (R47, R57). An entry written to the standby bank is the one READ-ENTRY returns from it, code for code
(R45, R47). To a group or all stations the command is refused unexecuted. -/
def Obligations.ReadEntryReturnsTheEntrysCodes : Prop :=
  (∀ (c : Call) (s : State), c.dest = .single → Executes c.dest c.tag s →
     (∀ e, c.a2 = 0 → c.a3 = 0 →
       (c.a1 = 0 ∧ s.plan.active = .zero ∨ c.a1 = 1 ∧ s.plan.active = .one → s.plan.bank0[c.a0.toNat]? = some e →
         exec (.readEntry c) s =
           .next (ending c.dest c.tag 0x04 .done (actionCode e) (wordCode e) (optionCode e) s)) ∧
       (c.a1 = 0 ∧ s.plan.active = .one ∨ c.a1 = 1 ∧ s.plan.active = .zero → s.plan.bank1[c.a0.toNat]? = some e →
         exec (.readEntry c) s =
           .next (ending c.dest c.tag 0x04 .done (actionCode e) (wordCode e) (optionCode e) s))) ∧
     (127 < c.a0.toNat ∨ 1 < c.a1.toNat ∨ c.a2 ≠ 0 ∨ c.a3 ≠ 0 →
       exec (.readEntry c) s = .next (ending c.dest c.tag 0x04 .range 0 0 0 s))) ∧
  (∀ (w r : Call) (s t u : State), w.dest = .single → r.dest = .single → Executes w.dest w.tag s →
     s.plan.commit = none → w.a0.toNat ≤ 127 → (entryOfArgs w.a1 w.a2 w.a3).isSome = true →
     exec (.writeEntry w) s = .next t → Executes r.dest r.tag t → r.a0 = w.a0 → r.a1 = 1 → r.a2 = 0 → r.a3 = 0 →
     exec (.readEntry r) t = .next u →
     u.ret.replies.getLast? = some ⟨r.tag, 0x04, .done, w.a1, w.a2, w.a3⟩) ∧
  (∀ (c : Call) (s : State), c.dest ≠ .single → atCompletion s = true →
     exec (.readEntry c) s = .next (refusedForDestination s))

/-- COMMIT (R49, R57); c is the number of the cycle whose completion executes it. CANCEL-COMMIT (R54, R57). -/
def Obligations.CommitAndCancelCommitKeepOnePendingCommit : Prop :=
  (∀ (c : Call) (s : State), Executes c.dest c.tag s →
     let now := lastAccepted s
     let ahead := (c.a0 - now).toNat
     (c.a1 = 0 → c.a2 = 0 → c.a3 = 0 → s.plan.commit = none → 1 ≤ ahead → ahead ≤ 32767 →
       exec (.commit c) s = .next (ending c.dest c.tag 0x07 .done c.a0 now (if s.plan.active = .zero then 1 else 0)
         { s with plan := { s.plan with commit := some c.a0 } })) ∧
     (∀ target, c.a1 = 0 → c.a2 = 0 → c.a3 = 0 → s.plan.commit = some target →
       exec (.commit c) s = .next (ending c.dest c.tag 0x07 .pending target now 0 s)) ∧
     (c.a1 = 0 → c.a2 = 0 → c.a3 = 0 → s.plan.commit = none → ahead = 0 ∨ 32767 < ahead →
       exec (.commit c) s = .next (ending c.dest c.tag 0x07 .range c.a0 now 0 s)) ∧
     (c.a1 ≠ 0 ∨ c.a2 ≠ 0 ∨ c.a3 ≠ 0 → exec (.commit c) s = .next (ending c.dest c.tag 0x07 .range c.a0 now 0 s))) ∧
  (∀ (c : Call) (s : State), Executes c.dest c.tag s →
     (∀ target, NoArguments c → s.plan.commit = some target → exec (.cancelCommit c) s =
       .next (ending c.dest c.tag 0x08 .done target 0 0 { s with plan := { s.plan with commit := none } })) ∧
     (NoArguments c → s.plan.commit = none →
       exec (.cancelCommit c) s = .next (ending c.dest c.tag 0x08 .notPending 0 0 0 s)) ∧
     (¬ NoArguments c → exec (.cancelCommit c) s = .next (ending c.dest c.tag 0x08 .range 0 0 0 s)))

/-! ## Working on slots in passing (chapter 4) -/

/-- TAKE (R63 to R65). A HELD slot's pattern word stages the level of every channel its mask names and of no other; with
release the slot leaves VACANT, owner 0, payload 0, and without as it arrived. A VACANT slot sets EMPTY-TAKE alone. -/
def Obligations.TakeStagesThePatternAndReleases : Prop :=
  ∀ (c : Cycle) (n : Nat) (v : Word) (sl : Slot) (word : Fin 6) (release : Bool) (inputs : Byte) (s : State),
    SlotPasses c n v sl (.take word release) s →
    let here := atSlotEnd c n (.word v) inputs s
    let staged : State := { here with channels := Vector.ofFn fun i => { s.channels[i] with
      staged := if sl.payload[word].getLsbD (8 + i.val) = true then some (sl.payload[word].getLsbD i.val)
        else s.channels[i].staged } }
    (arrivedHeld sl = true → release = false → exec (.itemReceived (.word v) inputs []) s = .next staged) ∧
    (arrivedHeld sl = true → release = true → exec (.itemReceived (.word v) inputs []) s =
      .next (leaving (cycleAt c n v) sl (releasedHeader n) emptyPayload staged)) ∧
    (arrivedHeld sl = false →
      exec (.itemReceived (.word v) inputs []) s = .next { here with flags := s.flags ||| 0x0020 })

/-- FILL (R66, R67). A VACANT slot leaves HELD by this station with the source word in the named payload word and every
other payload word as it arrived; a HELD slot sets COLLISION and counts in COLLISIONS. The four source words, place by
place (R18). -/
def Obligations.FillWritesItsSourceWordOrCollides : Prop :=
  (∀ (c : Cycle) (n : Nat) (v : Word) (sl : Slot) (word : Fin 6) (src : Source) (inputs : Byte) (s : State),
     SlotPasses c n v sl (.fill word src) s →
     let here := atSlotEnd c n (.word v) inputs s
     (arrivedHeld sl = false → exec (.itemReceived (.word v) inputs []) s = .next (leaving (cycleAt c n v) sl
       (ownHeader n s) (Vector.ofFn fun i => if i = word then sourceWord src here else sl.payload[i]) here)) ∧
     (arrivedHeld sl = true → exec (.itemReceived (.word v) inputs []) s = .next { here with
       flags := s.flags ||| 0x0010
       counters := { s.counters with collisions := bump s.counters.collisions 1 } })) ∧
  (∀ s : State,
     (∀ i : Fin 8, (sourceWord .inputs s).getLsbD i.val = s.sampler.lines[i].qualified ∧
       (sourceWord .inputs s).getLsbD (8 + i.val) = s.sampler.lines[i].changed) ∧
     (∀ i : Fin 8, (sourceWord .outputs s).getLsbD (8 + i.val) = s.channels[i].held ∧
       (sourceWord .outputs s).getLsbD i.val = if s.channels[i].config.source = .pattern then s.channels[i].applied
         else s.channels[i].config.level) ∧
     sourceWord .status s = s.flags ∧
     (s.ret.replies.length ≤ 8 → s.ret.events.length ≤ 16 → s.ret.inFlight.length ≤ 8 →
       (sourceWord .queues s).toNat = 512 * s.ret.inFlight.length + 16 * s.ret.events.length + s.ret.replies.length))

/-- An OFFER slot that passes VACANT does what RECORD_SENT or RECORD_RESENT does there, by resend mode; one that passes
HELD is left alone (R68, R69; log 21). -/
def Obligations.OfferSlotServesTheReturnPath : Prop :=
  ∀ (c : Cycle) (n : Nat) (v : Word) (sl : Slot) (cls : OfferClass) (inputs : Byte) (s : State),
    SlotPasses c n v sl (.offer cls) s → follows s = true → s.fwd.line.length = 12 →
    (∀ d ∈ s.fwd.line.drop 5, d.change = none) →
    let here := atSlotEnd c n (.word v) inputs s
    (arrivedHeld sl = false → s.ret.resendAt = none →
      exec (.itemReceived (.word v) inputs []) s = exec .recordSent here) ∧
    (arrivedHeld sl = false → s.ret.resendAt ≠ none →
      exec (.itemReceived (.word v) inputs []) s = exec .recordResent here) ∧
    (arrivedHeld sl = true → exec (.itemReceived (.word v) inputs []) s = .next here)

/-- MANAGE (R70 to R72). A slot HELD with owner 0 whose destination is the station, one of its groups or all stations is
appended to the held list; under an entry with release a single-destination one leaves released, and every other slot
leaves as it arrived. -/
def Obligations.ManageCollectsTheStationsCommands : Prop :=
  ∀ (c : Cycle) (n : Nat) (v : Word) (sl : Slot) (release : Bool) (inputs : Byte) (s : State),
    SlotPasses c n v sl (.manage release) s →
    let here := atSlotEnd c n (.word v) inputs s
    let destination := sl.payload[0].toNat % 64
    let owner := sl.header.toNat / 256 % 64
    let collected : DestType → State := fun d => { here with engine := { s.engine with
      held := s.engine.held ++ [⟨n, BitVec.ofNat 8 (sl.payload[0].toNat / 256), ⟨d, BitVec.ofNat 8 sl.payload[1].toNat,
        sl.payload[2], sl.payload[3], sl.payload[4], sl.payload[5]⟩⟩] } }
    (arrivedHeld sl = true → owner = 0 → 1 ≤ destination → destination ≤ 32 →
      destination = s.agent.address.toNat →
      exec (.itemReceived (.word v) inputs []) s = .next (if release = true
        then leaving (cycleAt c n v) sl (releasedHeader n) emptyPayload (collected .single) else collected .single)) ∧
    (arrivedHeld sl = true → owner = 0 → 33 ≤ destination → destination ≤ 48 →
      s.params.groups.getLsbD (destination - 33) = true →
      exec (.itemReceived (.word v) inputs []) s = .next (collected .group)) ∧
    (arrivedHeld sl = true → owner = 0 → destination = 63 →
      exec (.itemReceived (.word v) inputs []) s = .next (collected .all)) ∧
    (arrivedHeld sl = false ∨ owner ≠ 0 ∨ destination = 0 ∨ (49 ≤ destination ∧ destination ≤ 62) ∨
        (1 ≤ destination ∧ destination ≤ 32 ∧ destination ≠ s.agent.address.toNat) ∨
        (33 ≤ destination ∧ destination ≤ 48 ∧ s.params.groups.getLsbD (destination - 33) = false) →
      exec (.itemReceived (.word v) inputs []) s = .next here)

/-- An item of an accepted cycle that is no slot check and no trailer: a WORD or a FAULT moves the position on and does
nothing else; in a cycle already spoiled an IDLE does no more, and a stray MARKER only sets STRAY-MARKER (R29, R31, R32). A
damaged slot of an accepted cycle, spoiled or not, whatever its entry, leaves as it arrived and sets SLOT-DAMAGED and counts
in DAMAGED (R11, R61); here its last item is a WORD or a FAULT, in a spoiled cycle also an IDLE or a stray MARKER, which is
then no second failure (R29, R32). An undamaged slot under a PASS entry, and every undamaged
slot of a spoiled cycle, leaves as it arrived with nothing staged, collected, counted or flagged (R59, R60). -/
def Obligations.DamagedPassedAndSpoiledSlotsAreLeftAlone : Prop :=
  (∀ (c : Cycle) (item : Item) (inputs : Byte) (s : State), s.inReset = false → s.framer.judging = none →
     s.framer.cycle = some c → c.accepted = true → 2 ≤ c.pos → c.pos + 1 < 8 * c.slots + 3 → (c.pos + 1) % 8 ≠ 2 →
     ((∃ v, item = .word v) ∨ item = .fault ∨ c.status = .spoiled ∧ (item = .idle ∨ item = .marker ∧ follows s = true)) →
     exec (.itemReceived item inputs []) s = .next { afterStray item inputs s with framer := { s.framer with
       now := s.framer.now + 1, cycle := some { c with pos := c.pos + 1 } } }) ∧
  (∀ (c : Cycle) (n : Nat) (item : Item) (inputs : Byte) (s : State), SlotEnds c n s →
     (∃ v, item = .word v) ∨ item = .fault ∨ c.status = .spoiled ∧ (item = .idle ∨ item = .marker ∧ follows s = true) →
     (∀ sl, slotOfItems (lastSlotItems (forwardItem item s.fwd)) = some sl → ¬ Undamaged n sl) →
     exec (.itemReceived item inputs []) s =
       .next { atSlotEnd c n item inputs s with
         flags := (afterStray item inputs s).flags ||| 0x0002
         counters := { s.counters with damaged := bump s.counters.damaged 1 } }) ∧
  (∀ (c : Cycle) (n : Nat) (v : Word) (sl : Slot) (inputs : Byte) (s : State),
     (SlotPasses c n v sl .pass s → exec (.itemReceived (.word v) inputs []) s =
       .next (atSlotEnd c n (.word v) inputs s)) ∧
     (SlotEnds c n s → c.status = .spoiled → slotOfItems (lastSlotItems (forwardItem (.word v) s.fwd)) = some sl →
       Undamaged n sl → exec (.itemReceived (.word v) inputs []) s = .next (atSlotEnd c n (.word v) inputs s)))

/-! ## Output channels (chapter 5) -/

/-- APPLY_INSTANT (R85, R89, R90): pending configuration, ready level and release, channel by channel, and nothing else.
-/
def Obligations.ApplyInstantAppliesAndReleases : Prop :=
  ∀ s : State, atMarker s = true →
    exec .applyInstant s = .next { s with channels := Vector.ofFn fun i => appliedChannel s.guard.state s.channels[i] }

/-- What a pin drives, the first condition that holds deciding (R92, R94). While the guard is TRIPPED, every enabled
channel with a guard mode drives the level its guard mode names (R92, R114). -/
def Obligations.PinDriveFollowsItsTable : Prop :=
  (∀ (s : State) (i : Fin 8),
     let c := s.channels[i]
     let level := (if c.config.source = .pattern then c.applied else c.config.level) != c.config.invert
     (s.inReset = true → pinDrive s i = .floating) ∧
     (s.inReset = false → c.config.enable = false → pinDrive s i = .floating) ∧
     (s.inReset = false → c.config.enable = true → c.held = true → c.guardMode = .float → pinDrive s i = .floating) ∧
     (s.inReset = false → c.config.enable = true → c.held = true → c.guardMode = .low → pinDrive s i = .low) ∧
     (s.inReset = false → c.config.enable = true → c.held = true → c.guardMode = .high → pinDrive s i = .high) ∧
     (s.inReset = false → c.config.enable = true → c.held = false ∨ c.guardMode = .none →
       pinDrive s i = if level = true then .high else .low)) ∧
  (∀ (s : State) (i : Fin 8), GuardLaw s → s.inReset = false → s.guard.state = .tripped →
     s.channels[i].config.enable = true →
     (s.channels[i].guardMode = .float → pinDrive s i = .floating) ∧
     (s.channels[i].guardMode = .low → pinDrive s i = .low) ∧
     (s.channels[i].guardMode = .high → pinDrive s i = .high))

/-- WRITE_CHANNEL_CONFIGURATION (R81, R82): the parameter takes the value at once and the channel's pending
configuration is the one it codes; a value above 15 is refused with RANGE. WRITE_GUARD_MODE (R81, R83): LOCKED while the
guard is TRIPPED or the channel held; else the parameter and the guard mode take the value at once. -/
def Obligations.ChannelParametersAreWritten : Prop :=
  (∀ (i : Fin 8) (w : WriteCall) (s : State), Executes w.dest w.tag s →
     let number : Word := BitVec.ofNat 16 (16 + i.val)
     let old := s.params.channelConfig[i]
     (w.a2 = 0 → w.a3 = 0 → w.a1.toNat ≤ 15 → exec (.writeChannelConfiguration i w) s =
       .next (ending w.dest w.tag 0x03 .done number w.a1 old { s with
         params := { s.params with channelConfig := s.params.channelConfig.set i w.a1 }
         channels := s.channels.set i { s.channels[i] with pending := some ⟨w.a1.getLsbD 0,
           if w.a1.getLsbD 1 = true then .fixed else .pattern, w.a1.getLsbD 2, w.a1.getLsbD 3⟩ } })) ∧
     (w.a2 = 0 → w.a3 = 0 → 15 < w.a1.toNat → exec (.writeChannelConfiguration i w) s =
       .next (ending w.dest w.tag 0x03 .range number old old s)) ∧
     (w.a2 ≠ 0 ∨ w.a3 ≠ 0 → exec (.writeChannelConfiguration i w) s =
       .next (ending w.dest w.tag 0x03 .range number 0 0 s))) ∧
  (∀ (i : Fin 8) (w : WriteCall) (s : State), Executes w.dest w.tag s →
     let number : Word := BitVec.ofNat 16 (24 + i.val)
     let old := s.params.guardMode[i]
     let locked : Prop := s.guard.state = .tripped ∨ s.channels[i].held = true
     (w.a2 = 0 → w.a3 = 0 → w.a1.toNat ≤ 3 → ¬ locked → exec (.writeGuardMode i w) s =
       .next (ending w.dest w.tag 0x03 .done number w.a1 old { s with
         params := { s.params with guardMode := s.params.guardMode.set i w.a1 }
         channels := s.channels.set i { s.channels[i] with guardMode :=
           if w.a1 = 0 then .none else if w.a1 = 1 then .float else if w.a1 = 2 then .low else .high } })) ∧
     (w.a2 = 0 → w.a3 = 0 → w.a1.toNat ≤ 3 → locked → exec (.writeGuardMode i w) s =
       .next (ending w.dest w.tag 0x03 .locked number old old s)) ∧
     (w.a2 = 0 → w.a3 = 0 → 3 < w.a1.toNat → exec (.writeGuardMode i w) s =
       .next (ending w.dest w.tag 0x03 .range number old old s)) ∧
     (w.a2 ≠ 0 ∨ w.a3 ≠ 0 → exec (.writeGuardMode i w) s = .next (ending w.dest w.tag 0x03 .range number 0 0 s)))

/-- A configuration write, a guard-mode write and a GUARD-CLEAR move no pin at the moment they are taken (R93). -/
def Obligations.WritesAndClearsMoveNoPin : Prop :=
  ∀ (i : Instr) (s : State), (∃ ch w, i = .writeChannelConfiguration ch w) ∨ (∃ ch w, i = .writeGuardMode ch w) ∨
    (∃ c, i = .guardClear c) → ∃ t, exec i s = .next t ∧ ∀ j : Fin 8, pinDrive t j = pinDrive s j

/-! ## The output guard (chapter 6) -/

/-- GUARD_PIN_ACTIVE (R99, R100, R103): a change to the active level is a LINE trip; a pin already active stays.
GUARD_PIN_INACTIVE (R103): LINE ceases to be present and nothing but the pin's level changes. -/
def Obligations.GuardPinLevelsTripAndEndLine : Prop :=
  (∀ s : State, s.inReset = false →
     let t : State := { s with pins := { s.pins with guardHigh := s.params.guardPolarity != 0 } }
     (lineActive s = false → exec .guardPinActive s = .next (tripped .line t)) ∧
     (lineActive s = true → exec .guardPinActive s = .next t)) ∧
  (∀ s : State,
     let t : State := { s with pins := { s.pins with guardHigh := s.params.guardPolarity == 0 } }
     exec .guardPinInactive s = .next t ∧ lineActive t = false)

/-- WRITE_GUARD_PIN_POLARITY (R104): the polarity takes effect at the execution, and a pin that becomes active by it is
a LINE trip; a value above 1 is refused with RANGE. WRITE_RETURN_WINDOW (R146): RANGE outside 1 to 8, then BUSY below
the in-flight count, else the window at once. -/
def Obligations.PolarityAndWindowWritesKeepTheirConditions : Prop :=
  (∀ (w : WriteCall) (s : State), Executes w.dest w.tag s →
     let old := s.params.guardPolarity
     let t : State := { s with params := { s.params with guardPolarity := w.a1 } }
     (w.a2 = 0 → w.a3 = 0 → w.a1.toNat ≤ 1 → exec (.writeGuardPinPolarity w) s =
       .next (ending w.dest w.tag 0x03 .done 6 w.a1 old
         (if lineActive s = false ∧ lineActive t = true then tripped .line t else t))) ∧
     (w.a2 = 0 → w.a3 = 0 → 1 < w.a1.toNat → exec (.writeGuardPinPolarity w) s =
       .next (ending w.dest w.tag 0x03 .range 6 old old s)) ∧
     (w.a2 ≠ 0 ∨ w.a3 ≠ 0 → exec (.writeGuardPinPolarity w) s = .next (ending w.dest w.tag 0x03 .range 6 0 0 s))) ∧
  (∀ (w : WriteCall) (s : State), Executes w.dest w.tag s →
     let old := s.params.returnWindow
     (w.a2 = 0 → w.a3 = 0 → 1 ≤ w.a1.toNat → w.a1.toNat ≤ 8 → s.ret.inFlight.length ≤ w.a1.toNat →
       exec (.writeReturnWindow w) s = .next (ending w.dest w.tag 0x03 .done 3 w.a1 old
         { s with params := { s.params with returnWindow := w.a1 } })) ∧
     (w.a2 = 0 → w.a3 = 0 → 1 ≤ w.a1.toNat → w.a1.toNat ≤ 8 → w.a1.toNat < s.ret.inFlight.length →
       exec (.writeReturnWindow w) s = .next (ending w.dest w.tag 0x03 .busy 3 old old s)) ∧
     (w.a2 = 0 → w.a3 = 0 → w.a1.toNat = 0 ∨ 8 < w.a1.toNat → exec (.writeReturnWindow w) s =
       .next (ending w.dest w.tag 0x03 .range 3 old old s)) ∧
     (w.a2 ≠ 0 ∨ w.a3 ≠ 0 → exec (.writeReturnWindow w) s = .next (ending w.dest w.tag 0x03 .range 3 0 0 s)))

/-- GUARD-TRIP (R106, R113): a COMMAND trip in either guard state. GUARD-CLEAR (R109, R110, R113). -/
def Obligations.GuardTripAndGuardClearAnswerByGuardState : Prop :=
  (∀ (c : Call) (s : State), Executes c.dest c.tag s →
     (NoArguments c → s.guard.state = .normal → exec (.guardTrip c) s =
       .next (ending c.dest c.tag 0x0E .done 16 (lastAccepted s) 1 (tripped .command s))) ∧
     (NoArguments c → s.guard.state = .tripped → exec (.guardTrip c) s =
       .next (ending c.dest c.tag 0x0E .done ((s.guard.causes ||| causeSet .command).setWidth 16) s.guard.tripCycle 0
         (tripped .command s))) ∧
     (¬ NoArguments c → exec (.guardTrip c) s = .next (ending c.dest c.tag 0x0E .range 0 0 0 s))) ∧
  (∀ (c : Call) (s : State), Executes c.dest c.tag s →
     (NoArguments c → s.guard.state = .tripped → causesPresent s = 0 → exec (.guardClear c) s =
       .next (ending c.dest c.tag 0x0F .done (s.guard.causes.setWidth 16) s.guard.tripCycle
         (causeNumber s.guard.tripCause)
         (alerted .guardCleared (lastAccepted s) 0 0 { s with guard := { s.guard with state := .normal, causes := 0 } }))) ∧
     (NoArguments c → s.guard.state = .tripped → causesPresent s ≠ 0 → exec (.guardClear c) s =
       .next (ending c.dest c.tag 0x0F .causePresent (causesPresent s) (s.guard.causes.setWidth 16) s.guard.tripCycle
         s)) ∧
     (NoArguments c → s.guard.state = .normal → exec (.guardClear c) s =
       .next (ending c.dest c.tag 0x0F .notTripped 0 s.guard.tripCycle (causeNumber s.guard.tripCause) s)) ∧
     (¬ NoArguments c → exec (.guardClear c) s = .next (ending c.dest c.tag 0x0F .range 0 0 0 s)))

/-- Every step keeps the guard's law: a held channel has a guard mode, and while the guard is TRIPPED every channel with
a guard mode is held (R83, R88, R97, R114). -/
def Obligations.EveryStepKeepsGuardedChannelsHeld : Prop :=
  ∀ s t : State, GuardLaw s → step s = .next t → GuardLaw t

/-- The guard leaves TRIPPED only through a GUARD-CLEAR: the row itself, or an entry of the held list that a completion
runs (R114). -/
def Obligations.GuardLeavesTrippedOnlyByAClear : Prop :=
  ∀ (i : Instr) (s t : State), WellFormed i = true → exec i s = .next t → s.guard.state = .tripped →
    t.guard.state = .normal →
    (∃ c, i = .guardClear c) ∨
      (((∃ item inputs amid, i = .itemReceived item inputs amid) ∨ ∃ amid, i = .cycleCompleted amid) ∧
        ∃ e ∈ s.engine.held, e.code = 0x0F)

/-! ## The return path and the event queue (chapters 7 and 8) -/

/-- An EVENT handed over (R123 to R125): admitted below 14 records; else lost, with the lost-event count, the first-loss
cycle, EVENT-LOST and EVENTS-LOST, and an OVERFLOW queued if none waits and the queue holds fewer than 16. -/
def Obligations.EventIsAdmittedBelowFourteenElseLost : Prop :=
  ∀ (e : Event) (s : State),
    (s.ret.events.length < 14 →
      queueEvent e s = { s with ret := { s.ret with events := s.ret.events ++ [.event e] } }) ∧
    (14 ≤ s.ret.events.length → queueEvent e s = { s with
      ret := { s.ret with
        events := if Waiting.overflow ∉ s.ret.events ∧ s.ret.events.length < 16 then s.ret.events ++ [.overflow]
          else s.ret.events
        lost := bump s.ret.lost 1
        firstLoss := if s.ret.lost = 0 then some e.cycle else s.ret.firstLoss }
      flags := s.flags ||| 0x0800
      counters := { s.counters with eventsLost := bump s.counters.eventsLost 1 } })

/-- RECORD_SENT (R134 step 2, R135, R126, R68), the slot that has just passed being VACANT and offered with resend mode
off and room in the window: the head of the reply queue if the class admits it, else the head of the event queue. The
record takes the next number and FIRST, joins the in-flight list and leaves in the slot. Where the class admits none of the
waiting records nothing is handed over and nothing changes (R134 step 3). -/
def Obligations.RecordSentNumbersAndSendsTheHead : Prop :=
  ∀ (c : Cycle) (n : Nat) (sl : Slot) (cls : OfferClass) (s : State), offeredSlot s = some (n, sl, cls) →
    s.framer.cycle = some c → arrivedHeld sl = false → s.ret.resendAt = none →
    s.ret.inFlight.length < s.params.returnWindow.toNat →
    let sent : RecordKind → Vector Word 5 → ReturnPath → State := fun kind content r =>
      let e : Sent := ⟨kind, content, s.ret.nextSeq, s.ret.firstMark, s.framer.acceptedCount, 0⟩
      let words : Vector Word 6 := #v[BitVec.ofNat 16 ((if s.ret.firstMark = true then 1024 else 0) +
        256 * (recordCode kind).toNat + s.ret.nextSeq.toNat), content[0], content[1], content[2], content[3], content[4]]
      leaving c sl (ownHeader n s) words { s with
        engine := { s.engine with handover := some words }
        ret := { r with inFlight := s.ret.inFlight ++ [e], nextSeq := s.ret.nextSeq + 1, firstMark := false } }
    (∀ r rest, cls ≠ .event → s.ret.replies = r :: rest → exec .recordSent s =
      .next (sent .reply #v[r.tag.setWidth 16, (resultCode r.result ++ r.code), r.d0, r.d1, r.d2]
        { s.ret with replies := rest })) ∧
    (∀ e rest, cls = .event ∨ cls = .any ∧ s.ret.replies = [] → s.ret.events = .event e :: rest → exec .recordSent s =
      .next (sent .event #v[e.cycle, e.levels.setWidth 16, e.rising.setWidth 16, e.falling.setWidth 16, 0]
        { s.ret with events := rest })) ∧
    (∀ a rest, cls = .event ∨ cls = .any ∧ s.ret.replies = [] → s.ret.events = .alert a :: rest → exec .recordSent s =
      .next (sent .alert #v[alertCode a.kind, a.cycle, a.d0, a.d1, 0] { s.ret with events := rest })) ∧
    (∀ first rest, cls = .event ∨ cls = .any ∧ s.ret.replies = [] → s.ret.events = .overflow :: rest →
      s.ret.firstLoss = some first → exec .recordSent s =
        .next (sent .overflow #v[s.ret.lost, first, 0, 0, 0]
          { s.ret with events := rest, lost := 0, firstLoss := none })) ∧
    ((cls = .reply ∧ s.ret.replies = []) ∨ (cls = .event ∧ s.ret.events = []) → exec .recordSent s = .next s)

/-- RECORD_RESENT (R134 step 1, R136, R139, R68), the slot that has just passed being VACANT and offered in resend mode:
the entry at the resend position with RESENT 1, its counts and the position moving on; an entry whose kind the class
does not admit leaves everything as it was. -/
def Obligations.RecordResentMovesThePositionOn : Prop :=
  ∀ (c : Cycle) (n : Nat) (sl : Slot) (cls : OfferClass) (p : Nat) (e : Sent) (s : State),
    offeredSlot s = some (n, sl, cls) → s.framer.cycle = some c → arrivedHeld sl = false → s.ret.resendAt = some p →
    s.ret.inFlight[p]? = some e →
    let words : Vector Word 6 := #v[BitVec.ofNat 16 (2048 + (if e.first = true then 1024 else 0) +
      256 * (recordCode e.kind).toNat + e.seq.toNat), e.content[0], e.content[1], e.content[2], e.content[3],
      e.content[4]]
    (cls = .any ∨ (cls = .reply ∧ e.kind = .reply) ∨ (cls = .event ∧ e.kind ≠ .reply) → exec .recordResent s =
      .next (leaving c sl (ownHeader n s) words { s with
        engine := { s.engine with handover := some words }
        counters := { s.counters with resends := bump s.counters.resends 1 }
        ret := { s.ret with
          inFlight := s.ret.inFlight.set p
            { e with lastSend := s.framer.acceptedCount, resends := min (e.resends + 1) 15 }
          resendAt := if p + 1 < s.ret.inFlight.length then some (p + 1) else none } })) ∧
    ((cls = .reply ∧ e.kind ≠ .reply) ∨ (cls = .event ∧ e.kind = .reply) → exec .recordResent s = .next s)

/-- RETRY_EXPIRY (R137, R138, R140, R141): with resend mode off and the oldest entry's retry age at P4 or above, resend
mode begins at the oldest entry while its resend count is below P5; else the whole list is abandoned, with
RETURN-ABANDONED, ABANDONED and the alert of the range. Below P4 nothing changes. -/
def Obligations.RetryExpiryResendsOrAbandons : Prop :=
  ∀ (oldest newest : Sent) (rest : List Sent) (s : State), atMarker s = true → s.ret.resendAt = none →
    s.ret.inFlight = oldest :: rest → s.ret.inFlight.getLast? = some newest →
    let age := (s.framer.acceptedCount - oldest.lastSend).toNat
    (s.params.retryInterval.toNat ≤ age → oldest.resends < s.params.retryLimit.toNat →
      exec .retryExpiry s = .next { s with ret := { s.ret with resendAt := some 0 } }) ∧
    (s.params.retryInterval.toNat ≤ age → s.params.retryLimit.toNat ≤ oldest.resends →
      exec .retryExpiry s = .next (alerted .returnAbandoned (lastAccepted s) (oldest.seq.setWidth 16)
        (newest.seq.setWidth 16) { s with
          ret := { s.ret with inFlight := [] }
          flags := s.flags ||| 0x2000
          counters := { s.counters with abandoned := bump s.counters.abandoned s.ret.inFlight.length } })) ∧
    (age < s.params.retryInterval.toNat → exec .retryExpiry s = .next s)

/-- ACKNOWLEDGE (R142 to R144): the entry that carries the number and every older one leave the list, the resend
position staying on its entry or moving to the oldest left; a number no entry carries sets ACK-STRAY. No reply, no tag
memory. To a group or all stations the command is refused unexecuted. -/
def Obligations.AcknowledgeRemovesTheNamedAndOlderEntries : Prop :=
  (∀ (c : Call) (s : State), c.dest = .single → atCompletion s = true →
     (∀ older e newer, c.a0.toNat ≤ 255 → c.a1 = 0 → c.a2 = 0 → c.a3 = 0 →
       s.ret.inFlight = older ++ e :: newer → c.a0 = e.seq.setWidth 16 → (∀ o ∈ older, o.seq ≠ e.seq) →
       exec (.acknowledge c) s = .next { s with ret := { s.ret with
         inFlight := newer
         resendAt := match s.ret.resendAt with
           | none => none
           | some p => if newer = [] then none else if p ≤ older.length then some 0 else some (p - (older.length + 1)) } }) ∧
     (c.a0.toNat ≤ 255 → c.a1 = 0 → c.a2 = 0 → c.a3 = 0 → (∀ e ∈ s.ret.inFlight, c.a0 ≠ e.seq.setWidth 16) →
       exec (.acknowledge c) s = .next { s with flags := s.flags ||| 0x0400 }) ∧
     (255 < c.a0.toNat ∨ c.a1 ≠ 0 ∨ c.a2 ≠ 0 ∨ c.a3 ≠ 0 → exec (.acknowledge c) s =
       .next { s with counters := { s.counters with refused := bump s.counters.refused 1 } })) ∧
  (∀ (c : Call) (s : State), c.dest ≠ .single → atCompletion s = true →
     exec (.acknowledge c) s = .next (refusedForDestination s))

/-- Every step keeps the in-flight list within the window and its numbers consecutive up to the next one (R133). -/
def Obligations.EveryStepKeepsTheInFlightListInOrder : Prop :=
  ∀ s t : State, InFlightLaw s → step s = .next t → InFlightLaw t

/-- Every step keeps the queues within their places and their OVERFLOW accounts (R124 to R126, R130, R131), the station tag
memory's reply with its tag (R153), places 14 and 15 of the status set clear (R178) and the 12 places of the delay line
(R2). -/
def Obligations.EveryStepKeepsQueuesTagMemorySpareFlagsAndDelayLine : Prop :=
  ∀ s t : State, step s = .next t → (QueueLaw s → QueueLaw t) ∧ (TagLaw s → TagLaw t) ∧
    (SpareFlagsLaw s → SpareFlagsLaw t) ∧ (LineLaw s → LineLaw t)

/-! ## Commands, parameters, flags and counters (chapters 9 and 10) -/

/-- ECHO (R162). A single-destination command of an unknown kind is answered with UNKNOWN (R161), and a group or
all-stations command of a kind those destinations may not carry is refused unexecuted, with GROUP-REFUSED and one more
in REFUSED (R152, R155). -/
def Obligations.EchoUnknownAndForbiddenCommands : Prop :=
  (∀ (c : Call) (s : State), c.dest = .single → Executes c.dest c.tag s →
     (c.a3 = 0 → exec (.echo c) s = .next (ending c.dest c.tag 0x01 .done c.a0 c.a1 c.a2 s)) ∧
     (c.a3 ≠ 0 → exec (.echo c) s = .next (ending c.dest c.tag 0x01 .range 0 0 0 s))) ∧
  ((∀ (code : Byte) (c : Call) (s : State), WellFormed (.unknownCommand code c) = true → c.dest = .single →
     Executes c.dest c.tag s →
     exec (.unknownCommand code c) s = .next (ending c.dest c.tag code .unknown 0 0 0 s)) ∧
   ∀ (i : Instr) (code : Byte) (c : Call) (s : State), commandRecord i = some (code, c) → c.dest ≠ .single →
     code ∉ groupCodes → atCompletion s = true → exec i s = .next (refusedForDestination s))

/-- A duplicate tag (R156, R157). Single destination: the stored reply again if the reply queue has room, else
REPLY-FULL; group and all: skipped. DUPLICATE is set and nothing else changes. A single-destination command other than
ACKNOWLEDGE, no duplicate, that finds the reply queue full is not executed, and REPLY-FULL is all it leaves (R158). -/
def Obligations.DuplicatesAndFullReplyQueueStopACommand : Prop :=
  (∀ (i : Instr) (code : Byte) (c : Call) (s : State), commandRecord i = some (code, c) → atCompletion s = true →
     c.tag ≠ 0 →
     (c.dest = .single → code ≠ 0x0D → c.tag = s.agent.stationTag →
       (∀ r, s.agent.stored = some r → s.ret.replies.length < 8 → exec i s = .next { s with
         flags := s.flags ||| 0x0200
         ret := { s.ret with replies := s.ret.replies ++ [r] } }) ∧
       (8 ≤ s.ret.replies.length → exec i s = .next { s with flags := s.flags ||| 0x0200 ||| 0x0080 })) ∧
     (c.dest ≠ .single → code ∈ groupCodes → c.tag = s.agent.groupTag →
       exec i s = .next { s with flags := s.flags ||| 0x0200 })) ∧
  (∀ (i : Instr) (code : Byte) (c : Call) (s : State), commandRecord i = some (code, c) → atCompletion s = true →
     c.dest = .single → code ≠ 0x0D → c.tag = 0 ∨ c.tag ≠ s.agent.stationTag → 8 ≤ s.ret.replies.length →
     exec i s = .next { s with flags := s.flags ||| 0x0080 })

/-- READ-PARAM (R163) over the table of R174. To a group or all stations the command is refused unexecuted. -/
def Obligations.ReadParamReturnsTheTablesValue : Prop :=
  (∀ (c : Call) (s : State), c.dest = .single → Executes c.dest c.tag s →
     (∀ v, c.a1 = 0 → c.a2 = 0 → c.a3 = 0 → tableValue s c.a0.toNat = some v →
       exec (.readParam c) s = .next (ending c.dest c.tag 0x02 .done c.a0 v 0 s)) ∧
     (c.a1 = 0 → c.a2 = 0 → c.a3 = 0 → tableValue s c.a0.toNat = none →
       exec (.readParam c) s = .next (ending c.dest c.tag 0x02 .unknown c.a0 0 0 s)) ∧
     (c.a1 ≠ 0 ∨ c.a2 ≠ 0 ∨ c.a3 ≠ 0 → exec (.readParam c) s = .next (ending c.dest c.tag 0x02 .range 0 0 0 s))) ∧
  (∀ (c : Call) (s : State), c.dest ≠ .single → atCompletion s = true →
     exec (.readParam c) s = .next (refusedForDestination s))

/-- WRITE-PARAM to a parameter without behaviour of its own, to a read-only one and to a number outside the table (R164,
R174, R175). -/
def Obligations.WriteParamStoresWithinItsRange : Prop :=
  ∀ (c : Call) (s : State), WellFormed (.writeParam c) = true → Executes c.dest c.tag s →
    (∀ least greatest old, c.a2 = 0 → c.a3 = 0 → plainRange c.a0.toNat = some (least, greatest) →
      tableValue s c.a0.toNat = some old →
      (least ≤ c.a1.toNat → c.a1.toNat ≤ greatest → exec (.writeParam c) s =
        .next (ending c.dest c.tag 0x03 .done c.a0 c.a1 old
          { s with params := plainStored s.params c.a1 c.a0.toNat })) ∧
      (c.a1.toNat < least ∨ greatest < c.a1.toNat → exec (.writeParam c) s =
        .next (ending c.dest c.tag 0x03 .range c.a0 old old s))) ∧
    (∀ old, c.a2 = 0 → c.a3 = 0 → 60 ≤ c.a0.toNat → c.a0.toNat ≤ 62 → tableValue s c.a0.toNat = some old →
      exec (.writeParam c) s = .next (ending c.dest c.tag 0x03 .locked c.a0 old old s)) ∧
    (c.a2 = 0 → c.a3 = 0 → tableValue s c.a0.toNat = none →
      exec (.writeParam c) s = .next (ending c.dest c.tag 0x03 .unknown c.a0 0 0 s)) ∧
    (c.a2 ≠ 0 ∨ c.a3 ≠ 0 → exec (.writeParam c) s = .next (ending c.dest c.tag 0x03 .range c.a0 0 0 s))

/-- READ-STATUS (R165): the flags, the guard word and the trip record's cycle number. READ-COUNTERS (R167): three
counters from the index on, an index above 6 reading as 0. To a group or all stations both are refused unexecuted. -/
def Obligations.ReadStatusAndReadCountersReport : Prop :=
  (∀ (c : Call) (s : State), c.dest = .single → Executes c.dest c.tag s →
     (NoArguments c → exec (.readStatus c) s = .next (ending c.dest c.tag 0x09 .done s.flags
       (s.guard.causes.setWidth 16 + 256 * causesPresent s + if s.guard.state = .tripped then 32768 else 0)
       s.guard.tripCycle s)) ∧
     (¬ NoArguments c → exec (.readStatus c) s = .next (ending c.dest c.tag 0x09 .range 0 0 0 s))) ∧
  (∀ (c : Call) (s : State), c.dest = .single → Executes c.dest c.tag s →
     let k := s.counters
     let all : List Word :=
       [k.missed, k.damaged, k.collisions, k.eventsLost, k.resends, k.refused, k.abandoned, 0, 0]
     (∀ d0 d1 d2, c.a0.toNat ≤ 6 → c.a1 = 0 → c.a2 = 0 → c.a3 = 0 → all[c.a0.toNat]? = some d0 →
       all[c.a0.toNat + 1]? = some d1 → all[c.a0.toNat + 2]? = some d2 →
       exec (.readCounters c) s = .next (ending c.dest c.tag 0x0B .done d0 d1 d2 s)) ∧
     (6 < c.a0.toNat ∨ c.a1 ≠ 0 ∨ c.a2 ≠ 0 ∨ c.a3 ≠ 0 →
       exec (.readCounters c) s = .next (ending c.dest c.tag 0x0B .range 0 0 0 s))) ∧
  (∀ (c : Call) (s : State), c.dest ≠ .single → atCompletion s = true →
     exec (.readStatus c) s = .next (refusedForDestination s)) ∧
  (∀ (c : Call) (s : State), c.dest ≠ .single → atCompletion s = true →
     exec (.readCounters c) s = .next (refusedForDestination s))

/-- CLEAR-STATUS (R166): the flags named are cleared, the others stay, and d0 shows what is still set. CLEAR-COUNTERS
(R168): each counter named becomes 0, the others stay, and d0 carries a0. A RANGE refusal clears nothing; what d0 of a
refused CLEAR-STATUS carries is left open (log 9). -/
def Obligations.ClearingCommandsClearWhatTheyName : Prop :=
  (∀ (c : Call) (s : State), Executes c.dest c.tag s →
     (c.a0.toNat < 16384 → c.a1 = 0 → c.a2 = 0 → c.a3 = 0 → exec (.clearStatus c) s =
       .next (ending c.dest c.tag 0x0A .done (s.flags &&& ~~~c.a0) 0 0 { s with flags := s.flags &&& ~~~c.a0 })) ∧
     (16384 ≤ c.a0.toNat ∨ c.a1 ≠ 0 ∨ c.a2 ≠ 0 ∨ c.a3 ≠ 0 → ∃ d, exec (.clearStatus c) s =
       .next (ending c.dest c.tag 0x0A .range d 0 0 s))) ∧
  (∀ (c : Call) (s : State), Executes c.dest c.tag s →
     let after : Nat → Word → Word := fun i w => if c.a0.toNat / 2 ^ i % 2 = 1 then 0 else w
     let k := s.counters
     (c.a0.toNat ≤ 127 → c.a1 = 0 → c.a2 = 0 → c.a3 = 0 → exec (.clearCounters c) s =
       .next (ending c.dest c.tag 0x0C .done c.a0 0 0 { s with counters :=
         ⟨after 0 k.missed, after 1 k.damaged, after 2 k.collisions, after 3 k.eventsLost, after 4 k.resends,
           after 5 k.refused, after 6 k.abandoned⟩ })) ∧
     (127 < c.a0.toNat ∨ c.a1 ≠ 0 ∨ c.a2 ≠ 0 ∨ c.a3 ≠ 0 → exec (.clearCounters c) s =
       .next (ending c.dest c.tag 0x0C .range c.a0 0 0 s)))

/-- RESET-STATION (R169, R171): every block but the framer, the address and the forwarding path at its reset state, the
guard TRIPPED with RESET at this cycle (R108), the parameters at their defaults; the reply to a single destination alone
in the emptied queue, and the tag memories loaded. With an argument not 0 it is refused and resets nothing. A
RESET-STATION to this station sent again with its tag, next after the first, is a duplicate: the stored reply is queued
again and the station is not reset a second time (R172). -/
def Obligations.ResetStationResetsAllButTheRing : Prop :=
  (∀ (c : Call) (s : State), Executes c.dest c.tag s →
     let reply : Reply := ⟨c.tag, 0x10, .done, s.agent.address.setWidth 16, 2608, 1⟩
     (NoArguments c → ∃ t, exec (.resetStation c) s = .next t ∧ BlocksReset { t with ret := { t.ret with replies := [] } } ∧
       t.ret.replies = (if c.dest = .single then [reply] else []) ∧
       t.guard = ⟨.tripped, causeSet .reset, lastAccepted s, .reset⟩ ∧ t.params = defaults ∧
       t.agent = (if c.dest = .single
         then ⟨s.agent.address, c.tag, if c.tag = 0 then none else some reply, 0⟩
         else ⟨s.agent.address, 0, none, c.tag⟩) ∧
       t.framer = s.framer ∧ t.fwd = s.fwd ∧ t.pins = s.pins) ∧
     (¬ NoArguments c → exec (.resetStation c) s = .next (ending c.dest c.tag 0x10 .range 0 0 0 s))) ∧
  (∀ (c : Call) (s t : State), c.dest = .single → c.tag ≠ 0 → Executes c.dest c.tag s → NoArguments c →
     exec (.resetStation c) s = .next t → exec (.resetStation c) t = .next { t with
       flags := 0x0200
       ret := { t.ret with replies := t.ret.replies ++ t.ret.replies } })

/-- Every step keeps every parameter in its range and the address in 1 to 32 (R150, R174), and, with the parameters, the
channels' configurations and guard modes that they code (R81 to R83). -/
def Obligations.EveryStepKeepsParametersInRange : Prop :=
  ∀ s t : State, step s = .next t → (ParamLaw s → ParamLaw t) ∧ (ConfigLaw s → ConfigLaw t)

/-- Every step keeps what each acquisition state carries: F 0 in LOCKED and 1 to P1 in COASTING, a held reference, S and
last accepted cycle in both, no reference in HUNT, a candidate exactly in CONFIRM, and S exactly while a reference is held
or a candidate exists (R19, R22, R26, R27, R34 to R36). It holds for any number of FAULTs amid one item: they reach the
framer after the held list, one item time each, and each failure is compared with P1 as it then stands (R35; log 23). MODEL'S
CHOICE: k is 0 in HUNT and CONFIRM (log 17); a candidate that a MARKER cuts short stands until that MARKER has been judged
(log 24). -/
def Obligations.EveryStepKeepsTheFramersStates : Prop :=
  ∀ s t : State, FramerLaw s → step s = .next t → FramerLaw t

/-- The state after reset meets every law of the station's state. -/
def Obligations.ResetStateMeetsEveryLaw : Prop :=
  GuardLaw State.reset ∧ InFlightLaw State.reset ∧ QueueLaw State.reset ∧ TagLaw State.reset ∧ ParamLaw State.reset ∧
    ConfigLaw State.reset ∧ FramerLaw State.reset ∧ LineLaw State.reset ∧ SpareFlagsLaw State.reset
end

