-- ==== Sys2Proof/Laws/State.lean ====
section
/-! SUPPORT. One lemma per field per update of State: the updated field takes the value, every other keeps its own. -/

namespace Sys2Proof.Machine

@[simp] theorem State.putFwd_fwd (s : State) (v : Forward) : (s.putFwd v).fwd = v := rfl
@[simp] theorem State.putFwd_pins (s : State) (v : Forward) : (s.putFwd v).pins = s.pins := rfl
@[simp] theorem State.putFwd_powerHold (s : State) (v : Forward) : (s.putFwd v).powerHold = s.powerHold := rfl
@[simp] theorem State.putFwd_framer (s : State) (v : Forward) : (s.putFwd v).framer = s.framer := rfl
@[simp] theorem State.putFwd_plan (s : State) (v : Forward) : (s.putFwd v).plan = s.plan := rfl
@[simp] theorem State.putFwd_engine (s : State) (v : Forward) : (s.putFwd v).engine = s.engine := rfl
@[simp] theorem State.putFwd_channels (s : State) (v : Forward) : (s.putFwd v).channels = s.channels := rfl
@[simp] theorem State.putFwd_guard (s : State) (v : Forward) : (s.putFwd v).guard = s.guard := rfl
@[simp] theorem State.putFwd_sampler (s : State) (v : Forward) : (s.putFwd v).sampler = s.sampler := rfl
@[simp] theorem State.putFwd_ret (s : State) (v : Forward) : (s.putFwd v).ret = s.ret := rfl
@[simp] theorem State.putFwd_agent (s : State) (v : Forward) : (s.putFwd v).agent = s.agent := rfl
@[simp] theorem State.putFwd_params (s : State) (v : Forward) : (s.putFwd v).params = s.params := rfl
@[simp] theorem State.putFwd_flags (s : State) (v : Forward) : (s.putFwd v).flags = s.flags := rfl
@[simp] theorem State.putFwd_counters (s : State) (v : Forward) : (s.putFwd v).counters = s.counters := rfl
@[simp] theorem State.putFwd_choice (s : State) (v : Forward) : (s.putFwd v).choice = s.choice := rfl
@[simp] theorem State.putFwd_pending (s : State) (v : Forward) : (s.putFwd v).pending = s.pending := rfl
@[simp] theorem State.putFwd_inReset (s : State) (v : Forward) : (s.putFwd v).inReset = s.inReset := rfl

@[simp] theorem State.putPins_fwd (s : State) (v : Pins) : (s.putPins v).fwd = s.fwd := rfl
@[simp] theorem State.putPins_pins (s : State) (v : Pins) : (s.putPins v).pins = v := rfl
@[simp] theorem State.putPins_powerHold (s : State) (v : Pins) : (s.putPins v).powerHold = s.powerHold := rfl
@[simp] theorem State.putPins_framer (s : State) (v : Pins) : (s.putPins v).framer = s.framer := rfl
@[simp] theorem State.putPins_plan (s : State) (v : Pins) : (s.putPins v).plan = s.plan := rfl
@[simp] theorem State.putPins_engine (s : State) (v : Pins) : (s.putPins v).engine = s.engine := rfl
@[simp] theorem State.putPins_channels (s : State) (v : Pins) : (s.putPins v).channels = s.channels := rfl
@[simp] theorem State.putPins_guard (s : State) (v : Pins) : (s.putPins v).guard = s.guard := rfl
@[simp] theorem State.putPins_sampler (s : State) (v : Pins) : (s.putPins v).sampler = s.sampler := rfl
@[simp] theorem State.putPins_ret (s : State) (v : Pins) : (s.putPins v).ret = s.ret := rfl
@[simp] theorem State.putPins_agent (s : State) (v : Pins) : (s.putPins v).agent = s.agent := rfl
@[simp] theorem State.putPins_params (s : State) (v : Pins) : (s.putPins v).params = s.params := rfl
@[simp] theorem State.putPins_flags (s : State) (v : Pins) : (s.putPins v).flags = s.flags := rfl
@[simp] theorem State.putPins_counters (s : State) (v : Pins) : (s.putPins v).counters = s.counters := rfl
@[simp] theorem State.putPins_choice (s : State) (v : Pins) : (s.putPins v).choice = s.choice := rfl
@[simp] theorem State.putPins_pending (s : State) (v : Pins) : (s.putPins v).pending = s.pending := rfl

@[simp] theorem State.putPowerHold_fwd (s : State) (v : Bool) : (s.putPowerHold v).fwd = s.fwd := rfl
@[simp] theorem State.putPowerHold_pins (s : State) (v : Bool) : (s.putPowerHold v).pins = s.pins := rfl
@[simp] theorem State.putPowerHold_powerHold (s : State) (v : Bool) : (s.putPowerHold v).powerHold = v := rfl
@[simp] theorem State.putPowerHold_framer (s : State) (v : Bool) : (s.putPowerHold v).framer = s.framer := rfl
@[simp] theorem State.putPowerHold_plan (s : State) (v : Bool) : (s.putPowerHold v).plan = s.plan := rfl
@[simp] theorem State.putPowerHold_engine (s : State) (v : Bool) : (s.putPowerHold v).engine = s.engine := rfl
@[simp] theorem State.putPowerHold_channels (s : State) (v : Bool) : (s.putPowerHold v).channels = s.channels := rfl
@[simp] theorem State.putPowerHold_guard (s : State) (v : Bool) : (s.putPowerHold v).guard = s.guard := rfl
@[simp] theorem State.putPowerHold_sampler (s : State) (v : Bool) : (s.putPowerHold v).sampler = s.sampler := rfl
@[simp] theorem State.putPowerHold_ret (s : State) (v : Bool) : (s.putPowerHold v).ret = s.ret := rfl
@[simp] theorem State.putPowerHold_agent (s : State) (v : Bool) : (s.putPowerHold v).agent = s.agent := rfl
@[simp] theorem State.putPowerHold_params (s : State) (v : Bool) : (s.putPowerHold v).params = s.params := rfl
@[simp] theorem State.putPowerHold_flags (s : State) (v : Bool) : (s.putPowerHold v).flags = s.flags := rfl
@[simp] theorem State.putPowerHold_counters (s : State) (v : Bool) : (s.putPowerHold v).counters = s.counters := rfl
@[simp] theorem State.putPowerHold_choice (s : State) (v : Bool) : (s.putPowerHold v).choice = s.choice := rfl
@[simp] theorem State.putPowerHold_pending (s : State) (v : Bool) : (s.putPowerHold v).pending = s.pending := rfl

@[simp] theorem State.putFramer_fwd (s : State) (v : Framer) : (s.putFramer v).fwd = s.fwd := rfl
@[simp] theorem State.putFramer_pins (s : State) (v : Framer) : (s.putFramer v).pins = s.pins := rfl
@[simp] theorem State.putFramer_powerHold (s : State) (v : Framer) : (s.putFramer v).powerHold = s.powerHold := rfl
@[simp] theorem State.putFramer_framer (s : State) (v : Framer) : (s.putFramer v).framer = v := rfl
@[simp] theorem State.putFramer_plan (s : State) (v : Framer) : (s.putFramer v).plan = s.plan := rfl
@[simp] theorem State.putFramer_engine (s : State) (v : Framer) : (s.putFramer v).engine = s.engine := rfl
@[simp] theorem State.putFramer_channels (s : State) (v : Framer) : (s.putFramer v).channels = s.channels := rfl
@[simp] theorem State.putFramer_guard (s : State) (v : Framer) : (s.putFramer v).guard = s.guard := rfl
@[simp] theorem State.putFramer_sampler (s : State) (v : Framer) : (s.putFramer v).sampler = s.sampler := rfl
@[simp] theorem State.putFramer_ret (s : State) (v : Framer) : (s.putFramer v).ret = s.ret := rfl
@[simp] theorem State.putFramer_agent (s : State) (v : Framer) : (s.putFramer v).agent = s.agent := rfl
@[simp] theorem State.putFramer_params (s : State) (v : Framer) : (s.putFramer v).params = s.params := rfl
@[simp] theorem State.putFramer_flags (s : State) (v : Framer) : (s.putFramer v).flags = s.flags := rfl
@[simp] theorem State.putFramer_counters (s : State) (v : Framer) : (s.putFramer v).counters = s.counters := rfl
@[simp] theorem State.putFramer_choice (s : State) (v : Framer) : (s.putFramer v).choice = s.choice := rfl
@[simp] theorem State.putFramer_pending (s : State) (v : Framer) : (s.putFramer v).pending = s.pending := rfl
@[simp] theorem State.putFramer_inReset (s : State) (v : Framer) : (s.putFramer v).inReset = s.inReset := rfl

@[simp] theorem State.putPlan_fwd (s : State) (v : Plan) : (s.putPlan v).fwd = s.fwd := rfl
@[simp] theorem State.putPlan_pins (s : State) (v : Plan) : (s.putPlan v).pins = s.pins := rfl
@[simp] theorem State.putPlan_powerHold (s : State) (v : Plan) : (s.putPlan v).powerHold = s.powerHold := rfl
@[simp] theorem State.putPlan_framer (s : State) (v : Plan) : (s.putPlan v).framer = s.framer := rfl
@[simp] theorem State.putPlan_plan (s : State) (v : Plan) : (s.putPlan v).plan = v := rfl
@[simp] theorem State.putPlan_engine (s : State) (v : Plan) : (s.putPlan v).engine = s.engine := rfl
@[simp] theorem State.putPlan_channels (s : State) (v : Plan) : (s.putPlan v).channels = s.channels := rfl
@[simp] theorem State.putPlan_guard (s : State) (v : Plan) : (s.putPlan v).guard = s.guard := rfl
@[simp] theorem State.putPlan_sampler (s : State) (v : Plan) : (s.putPlan v).sampler = s.sampler := rfl
@[simp] theorem State.putPlan_ret (s : State) (v : Plan) : (s.putPlan v).ret = s.ret := rfl
@[simp] theorem State.putPlan_agent (s : State) (v : Plan) : (s.putPlan v).agent = s.agent := rfl
@[simp] theorem State.putPlan_params (s : State) (v : Plan) : (s.putPlan v).params = s.params := rfl
@[simp] theorem State.putPlan_flags (s : State) (v : Plan) : (s.putPlan v).flags = s.flags := rfl
@[simp] theorem State.putPlan_counters (s : State) (v : Plan) : (s.putPlan v).counters = s.counters := rfl
@[simp] theorem State.putPlan_choice (s : State) (v : Plan) : (s.putPlan v).choice = s.choice := rfl
@[simp] theorem State.putPlan_pending (s : State) (v : Plan) : (s.putPlan v).pending = s.pending := rfl
@[simp] theorem State.putPlan_inReset (s : State) (v : Plan) : (s.putPlan v).inReset = s.inReset := rfl

@[simp] theorem State.putEngine_fwd (s : State) (v : Engine) : (s.putEngine v).fwd = s.fwd := rfl
@[simp] theorem State.putEngine_pins (s : State) (v : Engine) : (s.putEngine v).pins = s.pins := rfl
@[simp] theorem State.putEngine_powerHold (s : State) (v : Engine) : (s.putEngine v).powerHold = s.powerHold := rfl
@[simp] theorem State.putEngine_framer (s : State) (v : Engine) : (s.putEngine v).framer = s.framer := rfl
@[simp] theorem State.putEngine_plan (s : State) (v : Engine) : (s.putEngine v).plan = s.plan := rfl
@[simp] theorem State.putEngine_engine (s : State) (v : Engine) : (s.putEngine v).engine = v := rfl
@[simp] theorem State.putEngine_channels (s : State) (v : Engine) : (s.putEngine v).channels = s.channels := rfl
@[simp] theorem State.putEngine_guard (s : State) (v : Engine) : (s.putEngine v).guard = s.guard := rfl
@[simp] theorem State.putEngine_sampler (s : State) (v : Engine) : (s.putEngine v).sampler = s.sampler := rfl
@[simp] theorem State.putEngine_ret (s : State) (v : Engine) : (s.putEngine v).ret = s.ret := rfl
@[simp] theorem State.putEngine_agent (s : State) (v : Engine) : (s.putEngine v).agent = s.agent := rfl
@[simp] theorem State.putEngine_params (s : State) (v : Engine) : (s.putEngine v).params = s.params := rfl
@[simp] theorem State.putEngine_flags (s : State) (v : Engine) : (s.putEngine v).flags = s.flags := rfl
@[simp] theorem State.putEngine_counters (s : State) (v : Engine) : (s.putEngine v).counters = s.counters := rfl
@[simp] theorem State.putEngine_choice (s : State) (v : Engine) : (s.putEngine v).choice = s.choice := rfl
@[simp] theorem State.putEngine_pending (s : State) (v : Engine) : (s.putEngine v).pending = s.pending := rfl
@[simp] theorem State.putEngine_inReset (s : State) (v : Engine) : (s.putEngine v).inReset = s.inReset := rfl

@[simp] theorem State.putChannels_fwd (s : State) (v : Vector Channel 8) : (s.putChannels v).fwd = s.fwd := rfl
@[simp] theorem State.putChannels_pins (s : State) (v : Vector Channel 8) : (s.putChannels v).pins = s.pins := rfl
@[simp] theorem State.putChannels_powerHold (s : State) (v : Vector Channel 8) : (s.putChannels v).powerHold = s.powerHold := rfl
@[simp] theorem State.putChannels_framer (s : State) (v : Vector Channel 8) : (s.putChannels v).framer = s.framer := rfl
@[simp] theorem State.putChannels_plan (s : State) (v : Vector Channel 8) : (s.putChannels v).plan = s.plan := rfl
@[simp] theorem State.putChannels_engine (s : State) (v : Vector Channel 8) : (s.putChannels v).engine = s.engine := rfl
@[simp] theorem State.putChannels_channels (s : State) (v : Vector Channel 8) : (s.putChannels v).channels = v := rfl
@[simp] theorem State.putChannels_guard (s : State) (v : Vector Channel 8) : (s.putChannels v).guard = s.guard := rfl
@[simp] theorem State.putChannels_sampler (s : State) (v : Vector Channel 8) : (s.putChannels v).sampler = s.sampler := rfl
@[simp] theorem State.putChannels_ret (s : State) (v : Vector Channel 8) : (s.putChannels v).ret = s.ret := rfl
@[simp] theorem State.putChannels_agent (s : State) (v : Vector Channel 8) : (s.putChannels v).agent = s.agent := rfl
@[simp] theorem State.putChannels_params (s : State) (v : Vector Channel 8) : (s.putChannels v).params = s.params := rfl
@[simp] theorem State.putChannels_flags (s : State) (v : Vector Channel 8) : (s.putChannels v).flags = s.flags := rfl
@[simp] theorem State.putChannels_counters (s : State) (v : Vector Channel 8) : (s.putChannels v).counters = s.counters := rfl
@[simp] theorem State.putChannels_choice (s : State) (v : Vector Channel 8) : (s.putChannels v).choice = s.choice := rfl
@[simp] theorem State.putChannels_pending (s : State) (v : Vector Channel 8) : (s.putChannels v).pending = s.pending := rfl
@[simp] theorem State.putChannels_inReset (s : State) (v : Vector Channel 8) : (s.putChannels v).inReset = s.inReset := rfl

@[simp] theorem State.putGuard_fwd (s : State) (v : Guard) : (s.putGuard v).fwd = s.fwd := rfl
@[simp] theorem State.putGuard_pins (s : State) (v : Guard) : (s.putGuard v).pins = s.pins := rfl
@[simp] theorem State.putGuard_powerHold (s : State) (v : Guard) : (s.putGuard v).powerHold = s.powerHold := rfl
@[simp] theorem State.putGuard_framer (s : State) (v : Guard) : (s.putGuard v).framer = s.framer := rfl
@[simp] theorem State.putGuard_plan (s : State) (v : Guard) : (s.putGuard v).plan = s.plan := rfl
@[simp] theorem State.putGuard_engine (s : State) (v : Guard) : (s.putGuard v).engine = s.engine := rfl
@[simp] theorem State.putGuard_channels (s : State) (v : Guard) : (s.putGuard v).channels = s.channels := rfl
@[simp] theorem State.putGuard_guard (s : State) (v : Guard) : (s.putGuard v).guard = v := rfl
@[simp] theorem State.putGuard_sampler (s : State) (v : Guard) : (s.putGuard v).sampler = s.sampler := rfl
@[simp] theorem State.putGuard_ret (s : State) (v : Guard) : (s.putGuard v).ret = s.ret := rfl
@[simp] theorem State.putGuard_agent (s : State) (v : Guard) : (s.putGuard v).agent = s.agent := rfl
@[simp] theorem State.putGuard_params (s : State) (v : Guard) : (s.putGuard v).params = s.params := rfl
@[simp] theorem State.putGuard_flags (s : State) (v : Guard) : (s.putGuard v).flags = s.flags := rfl
@[simp] theorem State.putGuard_counters (s : State) (v : Guard) : (s.putGuard v).counters = s.counters := rfl
@[simp] theorem State.putGuard_choice (s : State) (v : Guard) : (s.putGuard v).choice = s.choice := rfl
@[simp] theorem State.putGuard_pending (s : State) (v : Guard) : (s.putGuard v).pending = s.pending := rfl
@[simp] theorem State.putGuard_inReset (s : State) (v : Guard) : (s.putGuard v).inReset = s.inReset := rfl

@[simp] theorem State.putSampler_fwd (s : State) (v : Sampler) : (s.putSampler v).fwd = s.fwd := rfl
@[simp] theorem State.putSampler_pins (s : State) (v : Sampler) : (s.putSampler v).pins = s.pins := rfl
@[simp] theorem State.putSampler_powerHold (s : State) (v : Sampler) : (s.putSampler v).powerHold = s.powerHold := rfl
@[simp] theorem State.putSampler_framer (s : State) (v : Sampler) : (s.putSampler v).framer = s.framer := rfl
@[simp] theorem State.putSampler_plan (s : State) (v : Sampler) : (s.putSampler v).plan = s.plan := rfl
@[simp] theorem State.putSampler_engine (s : State) (v : Sampler) : (s.putSampler v).engine = s.engine := rfl
@[simp] theorem State.putSampler_channels (s : State) (v : Sampler) : (s.putSampler v).channels = s.channels := rfl
@[simp] theorem State.putSampler_guard (s : State) (v : Sampler) : (s.putSampler v).guard = s.guard := rfl
@[simp] theorem State.putSampler_sampler (s : State) (v : Sampler) : (s.putSampler v).sampler = v := rfl
@[simp] theorem State.putSampler_ret (s : State) (v : Sampler) : (s.putSampler v).ret = s.ret := rfl
@[simp] theorem State.putSampler_agent (s : State) (v : Sampler) : (s.putSampler v).agent = s.agent := rfl
@[simp] theorem State.putSampler_params (s : State) (v : Sampler) : (s.putSampler v).params = s.params := rfl
@[simp] theorem State.putSampler_flags (s : State) (v : Sampler) : (s.putSampler v).flags = s.flags := rfl
@[simp] theorem State.putSampler_counters (s : State) (v : Sampler) : (s.putSampler v).counters = s.counters := rfl
@[simp] theorem State.putSampler_choice (s : State) (v : Sampler) : (s.putSampler v).choice = s.choice := rfl
@[simp] theorem State.putSampler_pending (s : State) (v : Sampler) : (s.putSampler v).pending = s.pending := rfl
@[simp] theorem State.putSampler_inReset (s : State) (v : Sampler) : (s.putSampler v).inReset = s.inReset := rfl

@[simp] theorem State.putRet_fwd (s : State) (v : ReturnPath) : (s.putRet v).fwd = s.fwd := rfl
@[simp] theorem State.putRet_pins (s : State) (v : ReturnPath) : (s.putRet v).pins = s.pins := rfl
@[simp] theorem State.putRet_powerHold (s : State) (v : ReturnPath) : (s.putRet v).powerHold = s.powerHold := rfl
@[simp] theorem State.putRet_framer (s : State) (v : ReturnPath) : (s.putRet v).framer = s.framer := rfl
@[simp] theorem State.putRet_plan (s : State) (v : ReturnPath) : (s.putRet v).plan = s.plan := rfl
@[simp] theorem State.putRet_engine (s : State) (v : ReturnPath) : (s.putRet v).engine = s.engine := rfl
@[simp] theorem State.putRet_channels (s : State) (v : ReturnPath) : (s.putRet v).channels = s.channels := rfl
@[simp] theorem State.putRet_guard (s : State) (v : ReturnPath) : (s.putRet v).guard = s.guard := rfl
@[simp] theorem State.putRet_sampler (s : State) (v : ReturnPath) : (s.putRet v).sampler = s.sampler := rfl
@[simp] theorem State.putRet_ret (s : State) (v : ReturnPath) : (s.putRet v).ret = v := rfl
@[simp] theorem State.putRet_agent (s : State) (v : ReturnPath) : (s.putRet v).agent = s.agent := rfl
@[simp] theorem State.putRet_params (s : State) (v : ReturnPath) : (s.putRet v).params = s.params := rfl
@[simp] theorem State.putRet_flags (s : State) (v : ReturnPath) : (s.putRet v).flags = s.flags := rfl
@[simp] theorem State.putRet_counters (s : State) (v : ReturnPath) : (s.putRet v).counters = s.counters := rfl
@[simp] theorem State.putRet_choice (s : State) (v : ReturnPath) : (s.putRet v).choice = s.choice := rfl
@[simp] theorem State.putRet_pending (s : State) (v : ReturnPath) : (s.putRet v).pending = s.pending := rfl
@[simp] theorem State.putRet_inReset (s : State) (v : ReturnPath) : (s.putRet v).inReset = s.inReset := rfl

@[simp] theorem State.putAgent_fwd (s : State) (v : Agent) : (s.putAgent v).fwd = s.fwd := rfl
@[simp] theorem State.putAgent_pins (s : State) (v : Agent) : (s.putAgent v).pins = s.pins := rfl
@[simp] theorem State.putAgent_powerHold (s : State) (v : Agent) : (s.putAgent v).powerHold = s.powerHold := rfl
@[simp] theorem State.putAgent_framer (s : State) (v : Agent) : (s.putAgent v).framer = s.framer := rfl
@[simp] theorem State.putAgent_plan (s : State) (v : Agent) : (s.putAgent v).plan = s.plan := rfl
@[simp] theorem State.putAgent_engine (s : State) (v : Agent) : (s.putAgent v).engine = s.engine := rfl
@[simp] theorem State.putAgent_channels (s : State) (v : Agent) : (s.putAgent v).channels = s.channels := rfl
@[simp] theorem State.putAgent_guard (s : State) (v : Agent) : (s.putAgent v).guard = s.guard := rfl
@[simp] theorem State.putAgent_sampler (s : State) (v : Agent) : (s.putAgent v).sampler = s.sampler := rfl
@[simp] theorem State.putAgent_ret (s : State) (v : Agent) : (s.putAgent v).ret = s.ret := rfl
@[simp] theorem State.putAgent_agent (s : State) (v : Agent) : (s.putAgent v).agent = v := rfl
@[simp] theorem State.putAgent_params (s : State) (v : Agent) : (s.putAgent v).params = s.params := rfl
@[simp] theorem State.putAgent_flags (s : State) (v : Agent) : (s.putAgent v).flags = s.flags := rfl
@[simp] theorem State.putAgent_counters (s : State) (v : Agent) : (s.putAgent v).counters = s.counters := rfl
@[simp] theorem State.putAgent_choice (s : State) (v : Agent) : (s.putAgent v).choice = s.choice := rfl
@[simp] theorem State.putAgent_pending (s : State) (v : Agent) : (s.putAgent v).pending = s.pending := rfl
@[simp] theorem State.putAgent_inReset (s : State) (v : Agent) : (s.putAgent v).inReset = s.inReset := rfl

@[simp] theorem State.putParams_fwd (s : State) (v : Params) : (s.putParams v).fwd = s.fwd := rfl
@[simp] theorem State.putParams_pins (s : State) (v : Params) : (s.putParams v).pins = s.pins := rfl
@[simp] theorem State.putParams_powerHold (s : State) (v : Params) : (s.putParams v).powerHold = s.powerHold := rfl
@[simp] theorem State.putParams_framer (s : State) (v : Params) : (s.putParams v).framer = s.framer := rfl
@[simp] theorem State.putParams_plan (s : State) (v : Params) : (s.putParams v).plan = s.plan := rfl
@[simp] theorem State.putParams_engine (s : State) (v : Params) : (s.putParams v).engine = s.engine := rfl
@[simp] theorem State.putParams_channels (s : State) (v : Params) : (s.putParams v).channels = s.channels := rfl
@[simp] theorem State.putParams_guard (s : State) (v : Params) : (s.putParams v).guard = s.guard := rfl
@[simp] theorem State.putParams_sampler (s : State) (v : Params) : (s.putParams v).sampler = s.sampler := rfl
@[simp] theorem State.putParams_ret (s : State) (v : Params) : (s.putParams v).ret = s.ret := rfl
@[simp] theorem State.putParams_agent (s : State) (v : Params) : (s.putParams v).agent = s.agent := rfl
@[simp] theorem State.putParams_params (s : State) (v : Params) : (s.putParams v).params = v := rfl
@[simp] theorem State.putParams_flags (s : State) (v : Params) : (s.putParams v).flags = s.flags := rfl
@[simp] theorem State.putParams_counters (s : State) (v : Params) : (s.putParams v).counters = s.counters := rfl
@[simp] theorem State.putParams_choice (s : State) (v : Params) : (s.putParams v).choice = s.choice := rfl
@[simp] theorem State.putParams_pending (s : State) (v : Params) : (s.putParams v).pending = s.pending := rfl
@[simp] theorem State.putParams_inReset (s : State) (v : Params) : (s.putParams v).inReset = s.inReset := rfl

@[simp] theorem State.putFlags_fwd (s : State) (v : Word) : (s.putFlags v).fwd = s.fwd := rfl
@[simp] theorem State.putFlags_pins (s : State) (v : Word) : (s.putFlags v).pins = s.pins := rfl
@[simp] theorem State.putFlags_powerHold (s : State) (v : Word) : (s.putFlags v).powerHold = s.powerHold := rfl
@[simp] theorem State.putFlags_framer (s : State) (v : Word) : (s.putFlags v).framer = s.framer := rfl
@[simp] theorem State.putFlags_plan (s : State) (v : Word) : (s.putFlags v).plan = s.plan := rfl
@[simp] theorem State.putFlags_engine (s : State) (v : Word) : (s.putFlags v).engine = s.engine := rfl
@[simp] theorem State.putFlags_channels (s : State) (v : Word) : (s.putFlags v).channels = s.channels := rfl
@[simp] theorem State.putFlags_guard (s : State) (v : Word) : (s.putFlags v).guard = s.guard := rfl
@[simp] theorem State.putFlags_sampler (s : State) (v : Word) : (s.putFlags v).sampler = s.sampler := rfl
@[simp] theorem State.putFlags_ret (s : State) (v : Word) : (s.putFlags v).ret = s.ret := rfl
@[simp] theorem State.putFlags_agent (s : State) (v : Word) : (s.putFlags v).agent = s.agent := rfl
@[simp] theorem State.putFlags_params (s : State) (v : Word) : (s.putFlags v).params = s.params := rfl
@[simp] theorem State.putFlags_flags (s : State) (v : Word) : (s.putFlags v).flags = v := rfl
@[simp] theorem State.putFlags_counters (s : State) (v : Word) : (s.putFlags v).counters = s.counters := rfl
@[simp] theorem State.putFlags_choice (s : State) (v : Word) : (s.putFlags v).choice = s.choice := rfl
@[simp] theorem State.putFlags_pending (s : State) (v : Word) : (s.putFlags v).pending = s.pending := rfl
@[simp] theorem State.putFlags_inReset (s : State) (v : Word) : (s.putFlags v).inReset = s.inReset := rfl

@[simp] theorem State.putCounters_fwd (s : State) (v : Counters) : (s.putCounters v).fwd = s.fwd := rfl
@[simp] theorem State.putCounters_pins (s : State) (v : Counters) : (s.putCounters v).pins = s.pins := rfl
@[simp] theorem State.putCounters_powerHold (s : State) (v : Counters) : (s.putCounters v).powerHold = s.powerHold := rfl
@[simp] theorem State.putCounters_framer (s : State) (v : Counters) : (s.putCounters v).framer = s.framer := rfl
@[simp] theorem State.putCounters_plan (s : State) (v : Counters) : (s.putCounters v).plan = s.plan := rfl
@[simp] theorem State.putCounters_engine (s : State) (v : Counters) : (s.putCounters v).engine = s.engine := rfl
@[simp] theorem State.putCounters_channels (s : State) (v : Counters) : (s.putCounters v).channels = s.channels := rfl
@[simp] theorem State.putCounters_guard (s : State) (v : Counters) : (s.putCounters v).guard = s.guard := rfl
@[simp] theorem State.putCounters_sampler (s : State) (v : Counters) : (s.putCounters v).sampler = s.sampler := rfl
@[simp] theorem State.putCounters_ret (s : State) (v : Counters) : (s.putCounters v).ret = s.ret := rfl
@[simp] theorem State.putCounters_agent (s : State) (v : Counters) : (s.putCounters v).agent = s.agent := rfl
@[simp] theorem State.putCounters_params (s : State) (v : Counters) : (s.putCounters v).params = s.params := rfl
@[simp] theorem State.putCounters_flags (s : State) (v : Counters) : (s.putCounters v).flags = s.flags := rfl
@[simp] theorem State.putCounters_counters (s : State) (v : Counters) : (s.putCounters v).counters = v := rfl
@[simp] theorem State.putCounters_choice (s : State) (v : Counters) : (s.putCounters v).choice = s.choice := rfl
@[simp] theorem State.putCounters_pending (s : State) (v : Counters) : (s.putCounters v).pending = s.pending := rfl
@[simp] theorem State.putCounters_inReset (s : State) (v : Counters) : (s.putCounters v).inReset = s.inReset := rfl

@[simp] theorem State.putChoice_fwd (s : State) (v : Nat) : (s.putChoice v).fwd = s.fwd := rfl
@[simp] theorem State.putChoice_pins (s : State) (v : Nat) : (s.putChoice v).pins = s.pins := rfl
@[simp] theorem State.putChoice_powerHold (s : State) (v : Nat) : (s.putChoice v).powerHold = s.powerHold := rfl
@[simp] theorem State.putChoice_framer (s : State) (v : Nat) : (s.putChoice v).framer = s.framer := rfl
@[simp] theorem State.putChoice_plan (s : State) (v : Nat) : (s.putChoice v).plan = s.plan := rfl
@[simp] theorem State.putChoice_engine (s : State) (v : Nat) : (s.putChoice v).engine = s.engine := rfl
@[simp] theorem State.putChoice_channels (s : State) (v : Nat) : (s.putChoice v).channels = s.channels := rfl
@[simp] theorem State.putChoice_guard (s : State) (v : Nat) : (s.putChoice v).guard = s.guard := rfl
@[simp] theorem State.putChoice_sampler (s : State) (v : Nat) : (s.putChoice v).sampler = s.sampler := rfl
@[simp] theorem State.putChoice_ret (s : State) (v : Nat) : (s.putChoice v).ret = s.ret := rfl
@[simp] theorem State.putChoice_agent (s : State) (v : Nat) : (s.putChoice v).agent = s.agent := rfl
@[simp] theorem State.putChoice_params (s : State) (v : Nat) : (s.putChoice v).params = s.params := rfl
@[simp] theorem State.putChoice_flags (s : State) (v : Nat) : (s.putChoice v).flags = s.flags := rfl
@[simp] theorem State.putChoice_counters (s : State) (v : Nat) : (s.putChoice v).counters = s.counters := rfl
@[simp] theorem State.putChoice_choice (s : State) (v : Nat) : (s.putChoice v).choice = v := rfl
@[simp] theorem State.putChoice_pending (s : State) (v : Nat) : (s.putChoice v).pending = s.pending := rfl
@[simp] theorem State.putChoice_inReset (s : State) (v : Nat) : (s.putChoice v).inReset = s.inReset := rfl

@[simp] theorem State.putPending_fwd (s : State) (v : List Instr) : (s.putPending v).fwd = s.fwd := rfl
@[simp] theorem State.putPending_pins (s : State) (v : List Instr) : (s.putPending v).pins = s.pins := rfl
@[simp] theorem State.putPending_powerHold (s : State) (v : List Instr) : (s.putPending v).powerHold = s.powerHold := rfl
@[simp] theorem State.putPending_framer (s : State) (v : List Instr) : (s.putPending v).framer = s.framer := rfl
@[simp] theorem State.putPending_plan (s : State) (v : List Instr) : (s.putPending v).plan = s.plan := rfl
@[simp] theorem State.putPending_engine (s : State) (v : List Instr) : (s.putPending v).engine = s.engine := rfl
@[simp] theorem State.putPending_channels (s : State) (v : List Instr) : (s.putPending v).channels = s.channels := rfl
@[simp] theorem State.putPending_guard (s : State) (v : List Instr) : (s.putPending v).guard = s.guard := rfl
@[simp] theorem State.putPending_sampler (s : State) (v : List Instr) : (s.putPending v).sampler = s.sampler := rfl
@[simp] theorem State.putPending_ret (s : State) (v : List Instr) : (s.putPending v).ret = s.ret := rfl
@[simp] theorem State.putPending_agent (s : State) (v : List Instr) : (s.putPending v).agent = s.agent := rfl
@[simp] theorem State.putPending_params (s : State) (v : List Instr) : (s.putPending v).params = s.params := rfl
@[simp] theorem State.putPending_flags (s : State) (v : List Instr) : (s.putPending v).flags = s.flags := rfl
@[simp] theorem State.putPending_counters (s : State) (v : List Instr) : (s.putPending v).counters = s.counters := rfl
@[simp] theorem State.putPending_choice (s : State) (v : List Instr) : (s.putPending v).choice = s.choice := rfl
@[simp] theorem State.putPending_pending (s : State) (v : List Instr) : (s.putPending v).pending = v := rfl
@[simp] theorem State.putPending_inReset (s : State) (v : List Instr) : (s.putPending v).inReset = s.inReset := rfl

end Sys2Proof.Machine
end

