-- ==== Sys2Proof/Laws/Ops.lean ====
section
/-! SUPPORT. What each shared operation does, said once in the terms of Sys2Proof/Safety.lean: counts and flags, alerts,
trips, and how the agent ends a command. -/

namespace Sys2Proof.Machine

open Sys2Proof.Safety

/-! ## Counts and flags -/

theorem addSaturating_eq_bump (w : Word) (n : Nat) : addSaturating w n = bump w n := by
  have hw := w.isLt
  apply BitVec.eq_of_toNat_eq
  by_cases h : w.toNat + n ≤ 65535
  · have hn : n % 65536 = n := Nat.mod_eq_of_lt (by omega)
    simp [addSaturating, bump, h, hn]
  · simp [addSaturating, bump, h, Nat.min_eq_right (by omega : 65535 ≤ w.toNat + n)]

theorem setFlag_eq (f : Flag) (s : State) : setFlag f s = { s with flags := s.flags ||| flagWord f } := rfl

theorem setFlagIf_true (f : Flag) (s : State) : setFlagIf true f s = setFlag f s := rfl

theorem setFlagIf_false (f : Flag) (s : State) : setFlagIf false f s = s := rfl

theorem countMissed_eq (s : State) :
    countMissed s = { s with counters := { s.counters with missed := bump s.counters.missed 1 } } := by
  simp [countMissed, State.putCounters, addSaturating_eq_bump]

theorem countDamaged_eq (s : State) :
    countDamaged s = { s with counters := { s.counters with damaged := bump s.counters.damaged 1 } } := by
  simp [countDamaged, State.putCounters, addSaturating_eq_bump]

theorem countCollision_eq (s : State) :
    countCollision s = { s with counters := { s.counters with collisions := bump s.counters.collisions 1 } } := by
  simp [countCollision, State.putCounters, addSaturating_eq_bump]

theorem countEventLost_eq (s : State) :
    countEventLost s = { s with counters := { s.counters with eventsLost := bump s.counters.eventsLost 1 } } := by
  simp [countEventLost, State.putCounters, addSaturating_eq_bump]

theorem countResend_eq (s : State) :
    countResend s = { s with counters := { s.counters with resends := bump s.counters.resends 1 } } := by
  simp [countResend, State.putCounters, addSaturating_eq_bump]

theorem countRefused_eq (s : State) :
    countRefused s = { s with counters := { s.counters with refused := bump s.counters.refused 1 } } := by
  simp [countRefused, State.putCounters, addSaturating_eq_bump]

theorem countAbandoned_eq (n : Nat) (s : State) :
    countAbandoned n s = { s with counters := { s.counters with abandoned := bump s.counters.abandoned n } } := by
  simp [countAbandoned, State.putCounters, addSaturating_eq_bump]

/-! ## Alerts, presence and trips -/

theorem lastNumber_eq (s : State) : lastNumber s = lastAccepted s := by
  cases h : s.framer.last <;> simp [lastNumber, lastAccepted, h]

theorem queueAlert_eq (k : AlertKind) (c d0 d1 : Word) (s : State) :
    queueAlert ⟨k, c, d0, d1⟩ s = alerted k c d0 d1 s := by
  unfold queueAlert alerted Config.eventPlaces
  split <;> rfl

theorem linePresent_eq (s : State) : linePresent s = lineActive s := rfl

theorem linkPresent_eq (s : State) : linkPresent s = !follows s := by
  cases h : s.framer.acquisition <;> simp [linkPresent, follows, h]

theorem presentCauses_word (s : State) : causeWord (presentCauses s) = causesPresent s := by
  rw [presentCauses, causesPresent, linkPresent_eq, linePresent_eq]
  cases lineActive s <;> cases follows s <;> simp [causeWord, causeAlone, causePlace]

theorem presentCauses_eq_zero (s : State) : presentCauses s = 0 ↔ causesPresent s = 0 := by
  rw [presentCauses, causesPresent, linkPresent_eq, linePresent_eq]
  cases lineActive s <;> cases follows s <;> simp [causeAlone, causePlace]

theorem causeAlone_eq (c : Cause) : causeAlone c = causeSet c := by
  cases c <;> rfl

theorem causeWord_causeSet (c : Cause) : causeWord (causeSet c) = causeNumber c := by
  cases c <;> rfl

theorem holdChannels_eq (cs : Vector Channel 8) : holdChannels cs =
    Vector.ofFn fun i => { cs[i] with held := cs[i].held || cs[i].guardMode != .none } := by
  unfold holdChannels
  congr 1
  funext i
  generalize cs[i] = c
  by_cases h : c.guardMode = .none
  · rw [if_pos h]; cases c; simp_all
  · rw [if_neg h]; cases c; simp_all

theorem trip_eq (c : Cause) (s : State) : trip c s = tripped c s := by
  unfold trip tripped
  cases h : s.guard.state with
  | normal => simp only [queueAlert_eq, lastNumber_eq, causeAlone_eq, causeWord_causeSet, holdChannels_eq, if_true]; rfl
  | tripped => simp only [causeAlone_eq, reduceCtorEq, if_false]; rfl

/-! ## The agent's endings -/

theorem finishSingle_eq (code tag : Byte) (e : Effect) :
    finishSingle code tag e = ending .single tag code e.result e.d0 e.d1 e.d2 e.state := by
  unfold finishSingle countResult rememberSingle ending
  by_cases hr : e.result = .done <;> by_cases ht : tag = 0 <;>
    simp only [if_pos, if_neg, hr, ht, countRefused_eq, not_false_eq_true] <;> rfl

theorem finishGroup_eq (code tag : Byte) (dest : DestType) (e : Effect) (h : dest ≠ .single) :
    finishGroup tag e = ending dest tag code e.result e.d0 e.d1 e.d2 e.state := by
  unfold finishGroup countResult rememberGroup ending
  cases dest with
  | single => exact absurd rfl h
  | group =>
    by_cases hr : e.result = .done <;> by_cases ht : tag = 0 <;>
      simp only [if_pos, if_neg, hr, ht, countRefused_eq, not_false_eq_true] <;> rfl
  | all =>
    by_cases hr : e.result = .done <;> by_cases ht : tag = 0 <;>
      simp only [if_pos, if_neg, hr, ht, countRefused_eq, not_false_eq_true] <;> rfl

/-- A command whose destination may carry it, at a completion with no duplicate tag and a reply place, is executed (R154). -/
theorem judgeCommand_executed {code : Byte} {c : Call} {s : State} (h : Executes c.dest c.tag s)
    (hgroup : c.dest ≠ .single → groupAllowed (kindOf code) = true) : judgeCommand code c s = .executed := by
  obtain ⟨-, h⟩ := h
  unfold judgeCommand
  cases hd : c.dest with
  | single =>
    simp only [hd] at h
    have hdup : ¬ (c.tag ≠ 0 ∧ c.tag = s.agent.stationTag) := by
      rintro ⟨h1, h2⟩; exact h.1.elim h1 (fun h3 => h3 h2)
    have hroom : replyRoom s = true := decide_eq_true h.2
    simp only [hroom, if_neg hdup, if_true, ite_self]
  | group =>
    simp only [hd] at h
    have hdup : ¬ (c.tag ≠ 0 ∧ c.tag = s.agent.groupTag) := by
      rintro ⟨h1, h2⟩; exact h.elim h1 (fun h3 => h3 h2)
    simp only [hgroup (by simp [hd]), if_neg hdup, Bool.not_true, Bool.false_eq_true, if_false]
  | all =>
    simp only [hd] at h
    have hdup : ¬ (c.tag ≠ 0 ∧ c.tag = s.agent.groupTag) := by
      rintro ⟨h1, h2⟩; exact h.elim h1 (fun h3 => h3 h2)
    simp only [hgroup (by simp [hd]), if_neg hdup, Bool.not_true, Bool.false_eq_true, if_false]

/-- A command that reaches execution, other than ACKNOWLEDGE and a RESET-STATION with its arguments 0, ends with its kind's
result. -/
theorem takeCommand_executes {code : Byte} {c : Call} {s : State} (h : Executes c.dest c.tag s)
    (hack : kindOf code ≠ .acknowledge) (hgroup : c.dest ≠ .single → groupAllowed (kindOf code) = true)
    (hreset : isReset (kindOf code) c = false) :
    takeCommand code c s =
      ending c.dest c.tag code (effectOf (kindOf code) c s).result (effectOf (kindOf code) c s).d0
        (effectOf (kindOf code) c s).d1 (effectOf (kindOf code) c s).d2 (effectOf (kindOf code) c s).state := by
  unfold takeCommand
  rw [judgeCommand_executed h hgroup]
  cases hd : c.dest with
  | single => simp only [executeCommand, hreset, hd, if_neg hack, finishSingle_eq, Bool.false_eq_true, if_false]
  | group =>
    simp only [executeCommand, hreset, hd, Bool.false_eq_true, if_false]
    exact finishGroup_eq code c.tag .group _ (by simp)
  | all =>
    simp only [executeCommand, hreset, hd, Bool.false_eq_true, if_false]
    exact finishGroup_eq code c.tag .all _ (by simp)

end Sys2Proof.Machine
end

