-- ==== Sys2Proof/Laws/Commands.lean ====
section
/-! SUPPORT. A command row that is executed ends with its kind's effect; the codes and arguments its tests read. -/

namespace Sys2Proof.Machine

open Sys2Proof.Safety

theorem commandStep_atCompletion (code : Byte) (c : Call) (s : State) (h : atCompletion s = true) :
    commandStep code c s = .next (takeCommand code c s) := by
  rw [commandStep, h, if_pos rfl]

theorem isReset_other {k : CommandKind} {c : Call} (h : k ≠ .resetStation) : isReset k c = false := by
  simp [isReset, h]

/-- A command that reaches execution, other than ACKNOWLEDGE and a RESET-STATION that resets, ends with its kind's effect
(R159). -/
theorem commandStep_executes {code : Byte} {c : Call} {s : State} (hx : Executes c.dest c.tag s)
    (hack : kindOf code ≠ .acknowledge) (hreset : isReset (kindOf code) c = false)
    (hgroup : c.dest ≠ .single → groupAllowed (kindOf code) = true) (e : Effect) (he : effectOf (kindOf code) c s = e) :
    commandStep code c s = .next (ending c.dest c.tag code e.result e.d0 e.d1 e.d2 e.state) := by
  rw [commandStep_atCompletion code c s hx.1, takeCommand_executes hx hack hgroup hreset, he]

theorem groupAllowed_iff (code : Byte) : groupAllowed (kindOf code) = true ↔ code ∈ groupCodes := by
  revert code; decide +kernel

theorem kindOf_acknowledge (code : Byte) : kindOf code = .acknowledge ↔ code = 0x0D := by
  revert code; decide +kernel

theorem kindOf_resetStation (code : Byte) : kindOf code = .resetStation ↔ code = 0x10 := by
  revert code; decide +kernel

theorem kindOf_unknown (code : Byte) : kindOf code = .unknown ↔ (code.toNat = 0 || 17 ≤ code.toNat) = true := by
  revert code; decide +kernel

theorem noArguments_iff (c : Call) : noArguments c = true ↔ NoArguments c := by
  simp [noArguments, NoArguments, and_assoc]

theorem noArguments_false_iff (c : Call) : noArguments c = false ↔ ¬ NoArguments c := by
  rw [← noArguments_iff]; simp

/-- The parameter numbers of the channels (R174). -/
theorem paramOf_channelConfig (i : Fin 8) : paramOf (BitVec.ofNat 16 (16 + i.val)) = some (.channelConfig i) := by
  revert i; decide

theorem paramOf_guardMode (i : Fin 8) : paramOf (BitVec.ofNat 16 (24 + i.val)) = some (.guardMode i) := by
  revert i; decide

end Sys2Proof.Machine
end

