-- ==== Sys2Proof/Laws/Framer.lean ====
section
/-! SUPPORT. One item out of reset, said once; the header test, the ready levels and the spacing in the terms of
Sys2Proof/Safety.lean. -/

namespace Sys2Proof.Machine

open Sys2Proof.Safety

/-- With nothing amid it, an item that completes no cycle is the framer's taking of it and what the other blocks do then. -/
theorem frameAmid_nothing (item : Item) (s : State) : frameAmid [] item s = settle [] s.framer (frameItem item s) := by
  unfold frameAmid
  by_cases h : (accepted s.framer (frameItem item s).framer ||
      exceeds (frameItem item s).params.coastLimit s.framer (frameItem item s).framer) = true
  · rw [if_pos h]
  · rw [if_neg h]
    simp only [Bool.or_eq_true, not_or, Bool.not_eq_true] at h
    rw [settle, h.1, h.2]
    rfl

/-- An item out of reset: the framer takes it on the state of `afterItem`; a completion, or what the other blocks do at an
acceptance or a link loss, follows (R1, R2, R75). -/
theorem takeItem_running (item : Item) (inputs : Byte) (amid : List (List Amid)) (s : State) (h : s.inReset = false) :
    takeItem item inputs amid s =
      if completes item (afterItem item inputs s) then completeCycle amid (frameItem item (afterItem item inputs s))
      else frameAmid amid item (afterItem item inputs s) := by
  have hu : portItem item (s.putPins { s.pins with inputs := inputs }) = afterItem item inputs s := by
    cases item <;> rfl
  have hr : (s.putPins { s.pins with inputs := inputs }).inReset = false := h
  rw [← hu]
  show (if (s.putPins { s.pins with inputs := inputs }).inReset = true then _ else _) = _
  rw [hr, if_neg (by simp)]

/-- Where no FAULT falls amid it, an ITEM_RECEIVED is its one item. -/
theorem receiveItem_calm (item : Item) (inputs : Byte) {amid : List (List Amid)} (s : State)
    (h : .fault ∉ amid.flatten) : receiveItem item inputs amid s = takeItem item inputs amid s := by
  rw [receiveItem, List.count_eq_zero.2 h]; rfl

theorem execItemReceived_plain {item : Item} {inputs : Byte} {s : State} (h : s.inReset = false)
    (hc : completes item (afterItem item inputs s) = false) :
    execItemReceived item inputs [] s =
      .next (settle [] (afterItem item inputs s).framer (frameItem item (afterItem item inputs s))) := by
  rw [execItemReceived, receiveItem_calm _ _ _ (by simp), takeItem_running _ _ _ _ h, hc, ← frameAmid_nothing]; rfl

/-- Where the framer accepts no cycle and takes no failure, nothing is settled. -/
theorem settle_nothing {amid : List (List Amid)} {before : Framer} {s : State}
    (ha : s.framer.acceptedCount = before.acceptedCount) (hf : s.framer.failures ≤ before.failures) :
    settle amid before s = s := by
  have h1 : accepted before s.framer = false := by simp [accepted, ha]
  have h2 : exceeds s.params.coastLimit before s.framer = false := by simp [exceeds]; omega
  simp [settle, h1, h2]

/-- Where the framer accepts a cycle, the other blocks' part at its accepted marker. -/
theorem settle_accepted {amid : List (List Amid)} {before : Framer} {s : State}
    (ha : s.framer.acceptedCount = before.acceptedCount + 1) :
    settle amid before s =
      atAcceptedMarker amid (lastNumber s) (gainedRecords before s.framer (lastNumber s)) s := by
  have h1 : accepted before s.framer = true := by
    simp only [accepted, ha, bne_iff_ne, ne_eq]
    intro h
    simp at h
  rw [settle, h1, if_pos rfl]

/-- Where a failure in COASTING brings F above the coast limit, the link is lost (R35, R36). -/
theorem settle_lost {amid : List (List Amid)} {before : Framer} {s : State}
    (ha : s.framer.acceptedCount = before.acceptedCount) (hc : before.acquisition = .coasting)
    (hf : before.failures < s.framer.failures) (hl : s.params.coastLimit.toNat < s.framer.failures) :
    settle amid before s = loseLink amid s := by
  have h1 : accepted before s.framer = false := by simp [accepted, ha]
  have h2 : exceeds s.params.coastLimit before s.framer = true := by simp [exceeds, hc, hf, hl]
  rw [settle, h1, h2, if_neg (by simp), if_pos rfl]

/-- With nothing amid it, a work is its parts in their order. -/
theorem interleave_nothing (parts : List (State → State)) :
    ∀ s, interleave parts [] s = parts.foldl (fun s f => f s) s := by
  induction parts with
  | nil => intro s; rfl
  | cons f fs ih => intro s; exact ih _

/-- What falls before the first entry of a held list is taken before it (R154). -/
theorem runHeld_amid (e : HeldEntry) (es : List HeldEntry) (before : List Amid) (later : List (List Amid)) (s : State) :
    runHeld (e :: es) (before :: later) s = runHeld (e :: es) ([] :: later) (takeAmids before s) := rfl

theorem completes_judging {item : Item} {s : State} {j : Judging} (h : s.framer.judging = some j) :
    completes item s = false := by
  simp [completes, h]

theorem completes_gap {item : Item} {s : State} (h : s.framer.cycle = none) : completes item s = false := by
  unfold completes
  rw [h]
  split <;> simp_all

/-! The header (R8, R9, R20) -/

theorem headerSlots_eq (b : Word) : headerSlots b = slotsOf b := by
  simp only [headerSlots, slotsOf, BitVec.extractLsb', BitVec.toNat_ofNat, Nat.shiftRight_eq_div_pow]

theorem headerValid_iff (a b : Word) : headerValid a b = true ↔ HeaderOk a b := by
  have hs := headerSlots_eq b
  simp only [headerValid, HeaderOk, hs, slotsOf, Bool.and_eq_true, decide_eq_true_eq, and_assoc]
  refine and_congr ?_ Iff.rfl
  simp only [headerSum, hs, slotsOf, beq_iff_eq, ← BitVec.toNat_inj]
  have hb := b.isLt
  by_cases h : b.getLsbD 15
  · have : b.toNat / 32768 = 1 := by
      simp [BitVec.getLsbD, Nat.testBit_eq_decide_div_mod_eq] at h; omega
    simp only [h, this]
    simp [hiByte, loByte, Nat.shiftRight_eq_div_pow]; omega
  · have : b.toNat / 32768 = 0 := by
      simp [BitVec.getLsbD, Nat.testBit_eq_decide_div_mod_eq] at h; omega
    simp only [h, this]
    simp [hiByte, loByte, Nat.shiftRight_eq_div_pow]; omega

theorem headerValid_false {a b : Word} (h : ¬ HeaderOk a b) : headerValid a b = false := by
  rw [← headerValid_iff] at h; simpa using h

theorem headerKind_eq (b : Word) : headerKind b = if b.toNat < 32768 then .a else .b := by
  have hb := b.isLt
  simp only [headerKind, BitVec.getLsbD, Nat.testBit_eq_decide_div_mod_eq]
  by_cases h : b.toNat < 32768
  · rw [if_neg, if_pos h]; simp; omega
  · rw [if_pos, if_neg h]; simp; omega

/-! Ready levels (R86) and the missed cycle (R33) -/

theorem anyReady_iff (cs : Vector Channel 8) : anyReady cs = true ↔ ∃ i : Fin 8, cs[i].ready.isSome = true := by
  simp only [anyReady, Bool.or_eq_true]
  constructor
  · rintro (((((((h | h) | h) | h) | h) | h) | h) | h)
    exacts [⟨0, h⟩, ⟨1, h⟩, ⟨2, h⟩, ⟨3, h⟩, ⟨4, h⟩, ⟨5, h⟩, ⟨6, h⟩, ⟨7, h⟩]
  · rintro ⟨i, h⟩
    fin_cases i <;> simp_all

theorem discardReady_eq (s : State) : discardReady s = readyDropped s := by
  unfold discardReady readyDropped
  by_cases h : anyReady s.channels = true
  · rw [h, if_pos ((anyReady_iff _).1 h)]; rfl
  · rw [if_neg (mt (anyReady_iff _).2 h), Bool.not_eq_true] at *
    rw [h]; rfl

/-- A missed cycle: k and MISSED grow by 1, the ready levels go, a failure follows (R33, R38, R86). -/
theorem missCycle_eq (s : State) : missCycle s = takeFailure { readyDropped s with
    framer := { s.framer with position := s.framer.position + 1, judging := none }
    counters := { s.counters with missed := bump s.counters.missed 1 } } := by
  unfold missCycle
  rw [discardReady_eq, countMissed_eq]; rfl

end Sys2Proof.Machine
end

