-- ==== Sys2Proof/Laws/Queues.lean ====
section
/-! SUPPORT. What handing records to the event queue can do, what an acknowledgement covers, and that a free order only
rearranges. -/

namespace Sys2Proof.Machine

/-- One raised record: the event queue grows at its tail, and of the rest only the account of losses, flags that become set
and EVENTS-LOST can change (R123 to R125, R131). -/
theorem queueRaised_only (r : Raised) (s : State) : ∃ queued lost firstLoss more eventsLost,
    queueRaised r s = { s with
      ret := { s.ret with events := s.ret.events ++ queued, lost := lost, firstLoss := firstLoss }
      flags := s.flags ||| more
      counters := { s.counters with eventsLost := eventsLost } } := by
  cases r with
  | event e =>
    simp only [queueRaised, queueEvent]
    split
    · exact ⟨[.event e], s.ret.lost, s.ret.firstLoss, 0, s.counters.eventsLost, by simp [State.putRet]⟩
    · simp only [queueOverflow]
      split
      · exact ⟨[.overflow], _, _, flagWord .eventLost, _, rfl⟩
      · exact ⟨[], addSaturating s.ret.lost 1, if s.ret.lost = 0 then some e.cycle else s.ret.firstLoss,
          flagWord .eventLost, addSaturating s.counters.eventsLost 1, by rw [List.append_nil]; rfl⟩
  | alert a =>
    simp only [queueRaised, queueAlert]
    split
    · exact ⟨[.alert a], s.ret.lost, s.ret.firstLoss, 0, s.counters.eventsLost, by simp [State.putRet]⟩
    · exact ⟨[], s.ret.lost, s.ret.firstLoss, flagWord .alertLost, s.counters.eventsLost, by
        rw [List.append_nil]; rfl⟩

/-- Several raised records one after another. -/
theorem queueAll_only (rs : List Raised) : ∀ s : State, ∃ queued lost firstLoss more eventsLost,
    queueAll rs s = { s with
      ret := { s.ret with events := s.ret.events ++ queued, lost := lost, firstLoss := firstLoss }
      flags := s.flags ||| more
      counters := { s.counters with eventsLost := eventsLost } } := by
  induction rs with
  | nil =>
    intro s
    exact ⟨[], s.ret.lost, s.ret.firstLoss, 0, s.counters.eventsLost, by simp [queueAll]⟩
  | cons r rs ih =>
    intro s
    obtain ⟨q1, l1, f1, m1, e1, h1⟩ := queueRaised_only r s
    obtain ⟨q2, l2, f2, m2, e2, h2⟩ := ih (queueRaised r s)
    refine ⟨q1 ++ q2, l2, f2, m1 ||| m2, e2, ?_⟩
    show queueAll rs (queueRaised r s) = _
    rw [h2, h1]
    simp only [List.append_assoc, BitVec.or_assoc]

/-- The records of one accepted marker, in the free order (log 7). -/
theorem queueAtMarker_only (rs : List Raised) (s : State) : ∃ queued lost firstLoss more eventsLost,
    queueAtMarker [] rs s = { s with
      ret := { s.ret with events := s.ret.events ++ queued, lost := lost, firstLoss := firstLoss }
      flags := s.flags ||| more
      counters := { s.counters with eventsLost := eventsLost }
      choice := s.choice + 1 } := by
  obtain ⟨q, l, f, m, e, h⟩ := queueAll_only (arrange rs (Config.arrivalOrder s.choice)) (s.putChoice (s.choice + 1))
  refine ⟨q, l, f, m, e, ?_⟩
  rw [queueAtMarker, interleave_nothing, List.foldl_map]
  exact h

theorem insertAt_perm {α : Type} (l : List α) : ∀ (n : Nat) (x : α), (insertAt l n x).Perm (x :: l) := by
  induction l with
  | nil => intro n x; exact List.Perm.refl _
  | cons y ys ih =>
    intro n x
    unfold insertAt
    split
    · exact List.Perm.refl _
    · exact ((ih (n - 1) x).cons y).trans (List.Perm.swap x y ys)

/-- A free order rearranges its list and no more (R26, R52, R132). -/
theorem arrange_perm {α : Type} (l : List α) : ∀ n, (arrange l n).Perm l := by
  induction l with
  | nil => intro n; exact List.Perm.refl _
  | cons x xs ih => intro n; exact (insertAt_perm _ _ _).trans ((ih _).cons x)

/-- An acknowledgement covers the entry that carries its number and the older ones (R142). -/
theorem coveredBy_split (older : List Sent) (e : Sent) (newer : List Sent) (h : ∀ o ∈ older, o.seq ≠ e.seq) :
    coveredBy e.seq (older ++ e :: newer) = some (older.length + 1) := by
  induction older with
  | nil => simp [coveredBy]
  | cons o os ih => simp [coveredBy, h o (by simp), ih (fun x hx => h x (by simp [hx]))]

/-- A number no entry carries covers none (R144). -/
theorem coveredBy_none (l : List Sent) (seq : Byte) (h : ∀ o ∈ l, o.seq ≠ seq) : coveredBy seq l = none := by
  induction l with
  | nil => rfl
  | cons o os ih => simp [coveredBy, h o (by simp), ih (fun x hx => h x (by simp [hx]))]

end Sys2Proof.Machine
end

