-- ==== Sys2Proof/Laws/Slots.lean ====
section
/-! SUPPORT. The last item of a slot, said once; headers, checks and the words a slot leaves as in the terms of
Sys2Proof/Safety.lean. -/

namespace Sys2Proof.Machine

open Sys2Proof.Safety

theorem slotCheck_eq (h : Word) (p : Vector Word 6) :
    slotCheck h p = 65535 - (h + p[0] + p[1] + p[2] + p[3] + p[4] + p[5]) := rfl

theorem slotNumber_eq (h : Word) : (h &&& 0x003F).toNat = slotNumber h := by
  simp [slotNumber, BitVec.extractLsb']
  exact Nat.and_two_pow_sub_one_eq_mod _ 6

theorem slotDamaged_iff (n : Nat) (sl : Slot) : slotDamaged n sl = false ↔ Undamaged n sl := by
  simp only [slotDamaged, Undamaged, ← slotCheck_eq, slotNumber_eq]
  simp

theorem undamaged_lt {n : Nat} {sl : Slot} (h : Undamaged n sl) : n < 64 := by
  rw [← h.2, slotNumber_eq]
  exact (sl.header.extractLsb' 0 6).isLt

theorem slotHeld_eq (sl : Slot) : slotHeld sl.header = arrivedHeld sl := by
  simp only [slotHeld, arrivedHeld]
  generalize sl.header = w
  rw [Bool.eq_iff_iff]
  simp only [bne_iff_ne, ne_eq]
  constructor
  · intro h h2
    have := congrArg (fun x => x.getLsbD 6) h2
    simp only [BitVec.getLsbD_and, h] at this
    exact absurd this (by decide)
  · intro h
    by_contra h3
    apply h
    apply BitVec.eq_of_getLsbD_eq
    intro i hi
    have h64 : (0x0040 : Word) = BitVec.twoPow 16 6 := rfl
    rw [h64]
    simp [BitVec.getLsbD_and, BitVec.getLsbD_twoPow]
    rintro h5 rfl
    exact h3 h5

theorem slotHeader_released (n : Nat) (h : n < 64) : slotHeader 0 false n = releasedHeader n := by
  simp only [releasedHeader]
  interval_cases n <;> rfl

theorem slotHeader_own (n : Nat) (h : n < 64) (s : State) : slotHeader s.agent.address true n = ownHeader n s := by
  simp only [ownHeader]
  generalize s.agent.address = a
  have hn : n = (BitVec.ofNat 6 n).toNat := by simp; omega
  rw [hn]
  generalize BitVec.ofNat 6 n = m
  revert a m
  decide +kernel

/-- A slot that leaves rewritten (R62). -/
theorem leaveAs_eq (c : Cycle) (sl : Slot) (header : Word) (p : Vector Word 6) (s : State)
    (h : s.framer.cycle = some c) : leaveAs sl header p s = leaving c sl header p s := by
  simp only [leaveAs, leaving, ← slotCheck_eq, addNet]
  have h2 : (s.putFwd (rewriteSlot [header, p[0], p[1], p[2], p[3], p[4], p[5], slotCheck header p]
      (slotCheck header p - sl.check) s.fwd)).framer.cycle = some c := h
  simp only [h2]; rfl

theorem advanceCycle_atCheck {c : Cycle} {n : Nat} {item : Item} (h : c.pos = 8 * n + 9) (hn : n < c.slots) :
    advanceCycle item c = match item with
      | .word v => { c with pos := 8 * n + 10, sum := c.sum + v }
      | _ => { c with pos := 8 * n + 10, checkFault := true } := by
  have : isCheckPos c (c.pos + 1) = true := by simp [isCheckPos, trailerPos]; omega
  unfold advanceCycle
  rw [if_pos this, h] <;> rfl

theorem addNet_framer (w : Word) (s : State) : ∃ c, (addNet w s).framer = { s.framer with cycle := c } := by
  unfold addNet
  split
  · exact ⟨_, rfl⟩
  · exact ⟨s.framer.cycle, rfl⟩

theorem serveOffer_framer (cls : OfferClass) (s : State) : (serveOffer cls s).1.framer = s.framer := by
  unfold serveOffer
  split
  · unfold resendAt; split
    · rfl
    · split <;> rfl
  · unfold sendNew
    dsimp only
    split
    · rfl
    · split
      · rfl
      · split
        · split <;> rfl
        · rfl

/-- The decision for a slot touches nothing of the framer but the net check change of its cycle (R62). -/
theorem decideSlot_framer (c : Cycle) (n : Nat) (s : State) :
    ∃ d, (decideSlot c n s).framer = { s.framer with cycle := d } := by
  unfold decideSlot
  split
  · exact ⟨s.framer.cycle, rfl⟩
  · split
    · rename_i sl _ _
      cases activeEntry c.kind n s.plan with
      | pass => exact ⟨s.framer.cycle, rfl⟩
      | take word release =>
        simp only [actOnSlot, takeAction]
        split
        · split
          · exact addNet_framer _ _
          · exact ⟨s.framer.cycle, rfl⟩
        · exact ⟨s.framer.cycle, rfl⟩
      | fill word src =>
        simp only [actOnSlot, fillAction]
        split
        · exact ⟨s.framer.cycle, rfl⟩
        · exact addNet_framer _ _
      | offer cls =>
        simp only [actOnSlot, offerAction]
        have hf := serveOffer_framer cls s
        split
        · exact ⟨s.framer.cycle, rfl⟩
        · split
          · rename_i t words h
            rw [h] at hf
            have hf : t.framer = s.framer := hf
            obtain ⟨d, hd⟩ := addNet_framer
              (slotCheck (slotHeader t.agent.address true n) words - sl.check)
              ((t.putEngine { t.engine with handover := some words }).putFwd (rewriteSlot
                [slotHeader t.agent.address true n, words[0], words[1], words[2], words[3], words[4], words[5],
                  slotCheck (slotHeader t.agent.address true n) words]
                (slotCheck (slotHeader t.agent.address true n) words - sl.check) t.fwd))
            exact ⟨d, hd.trans (by show { t.framer with cycle := d } = _; rw [hf])⟩
          · rename_i t h
            rw [h] at hf
            exact ⟨s.framer.cycle, hf⟩
      | manage release =>
        simp only [actOnSlot, manageAction]
        split
        · split
          · exact ⟨s.framer.cycle, rfl⟩
          · split
            · exact addNet_framer _ _
            · exact ⟨s.framer.cycle, rfl⟩
        · exact ⟨s.framer.cycle, rfl⟩
    · exact ⟨s.framer.cycle, rfl⟩

/-- The last item of a slot, when it is no MARKER and spoils nothing: the slot's decision on the state of `atSlotEnd`. -/
theorem execItemReceived_slotEnd {c : Cycle} {n : Nat} {item : Item} {inputs : Byte} {s : State} (h : SlotEnds c n s)
    (hm : item ≠ .marker) (hi : item ≠ .idle ∨ c.status ≠ .running) :
    execItemReceived item inputs [] s =
      .next (decideSlot (advanceCycle item c) n (atSlotEnd c n item inputs s)) := by
  have g1 : (afterItem item inputs s).framer.judging = none := h.noHeader
  have g2 : (afterItem item inputs s).framer.cycle = some c := h.cycle
  have ⟨hp, hn⟩ := h.place
  have hne : c.pos + 1 ≠ 8 * c.slots + 3 := by omega
  have hcomp : completes item (afterItem item inputs s) = false := by
    have h1 : (c.pos + 1 == 8 * c.slots + 3) = false := by simpa using hne
    simp only [completes, g1, g2, trailerPos, h1, Bool.and_false, Bool.false_and]
  rw [execItemReceived_plain h.running hcomp]
  have hA := advanceCycle_atCheck (item := item) hp hn
  have hpos : (advanceCycle item c).pos = 8 * n + 10 := by rw [hA]; cases item <;> rfl
  have hsl : trailerPos (advanceCycle item c) = 8 * c.slots + 3 := by rw [hA]; cases item <;> rfl
  have hst : (advanceCycle item c).status = c.status := by rw [hA]; cases item <;> rfl
  have hsp : spoils item (advanceCycle item c) = false := by
    simp only [spoils, hpos, hsl, hst]
    rw [if_pos (by omega)]
    rcases hi with hi | hi
    · simp [hm, hi]
    · simp [hi]
  have hck : isCheckPos (advanceCycle item c) (8 * n + 10) = true := by
    simp only [isCheckPos, hsl]; simp; omega
  have hb : (item == Item.marker) = false := by simpa using hm
  have hfr : frameItem item (afterItem item inputs s) = acceptedItem c item (afterItem item inputs s) := by
    simp only [frameItem, g1, g2, cycleItem, h.accepted, hm, false_and, if_false, Bool.not_true, Bool.false_eq_true]
  have hacc : ∀ t : State, acceptedItem c item t =
      decideSlot (advanceCycle item c) n (t.putFramer { t.framer with cycle := some (advanceCycle item c) }) := by
    intro t
    unfold acceptedItem
    generalize advanceCycle item c = d at hpos hsl hsp hck
    have hd : (d.pos - 10) / 8 = n := by omega
    simp only [hb, hsp, hd]
    rw [if_pos (by rw [hpos, hsl]; omega), if_pos (by rw [hpos]; exact hck)]
    rfl
  rw [hfr, hacc]
  obtain ⟨d, hd⟩ := decideSlot_framer (advanceCycle item c) n
    ((afterItem item inputs s).putFramer { (afterItem item inputs s).framer with cycle := some (advanceCycle item c) })
  rw [settle_nothing (by rw [hd]; rfl) (by rw [hd]; exact Nat.le_refl _), hA]
  congr 2
  cases item <;> rfl

theorem passingSlot_atSlotEnd {n : Nat} {v : Word} {sl : Slot} {inputs : Byte} {c : Cycle} {s : State}
    (hw : slotOfItems (lastSlotItems (forwardItem (.word v) s.fwd)) = some sl) (hu : Undamaged n sl) :
    passingSlot n (atSlotEnd c n (.word v) inputs s) = some sl := by
  have hl : (atSlotEnd c n (.word v) inputs s).fwd = forwardItem (.word v) s.fwd := rfl
  simp only [passingSlot, hl, hw, (slotDamaged_iff n sl).2 hu]; rfl

theorem activeEntry_steering {c : Cycle} {n : Nat} {e : Entry} {s t : State} (h : steering c n s = some e)
    (hp : t.plan = s.plan) : activeEntry c.kind n t.plan = e := by
  rw [hp]
  have h2 : (bankOf s.plan.active s.plan)[entryIndex c.kind n]? = some e := by
    rw [← h]; unfold steering bankOf entryIndex; cases s.plan.active <;> cases c.kind <;> rfl
  simp only [activeEntry, h2]; rfl

/-- An undamaged slot of a cycle that is not spoiled: its entry's action (R60). -/
theorem execItemReceived_slotPasses {c : Cycle} {n : Nat} {v : Word} {sl : Slot} {e : Entry} {inputs : Byte} {s : State}
    (h : SlotPasses c n v sl e s) :
    execItemReceived (.word v) inputs [] s = .next (actOnSlot e n sl (atSlotEnd c n (.word v) inputs s)) := by
  rw [execItemReceived_slotEnd h.ends (by simp) (by simp)]
  have hA := advanceCycle_atCheck (item := .word v) h.ends.place.1 h.ends.place.2
  have hst : (advanceCycle (.word v) c).status = .running := by rw [hA]; exact h.unspoiled
  have hk : (advanceCycle (.word v) c).kind = c.kind := by rw [hA]
  simp only [decideSlot, passingSlot_atSlotEnd h.words h.undamaged, hst, if_true, hk,
    activeEntry_steering (t := atSlotEnd c n (.word v) inputs s) h.entry rfl]

end Sys2Proof.Machine
end

