-- ==== Sys2Proof/Tests/Slice0.lean ====
section
/-! SUPPORT. Tests: ill-formed terms, the manual's worked examples, one step of every command, and a state that meets the
hypotheses of each statement. -/

namespace Sys2Proof.Tests

open Sys2Proof.Machine Sys2Proof.Safety

/-! ## Well-formedness -/

def noCall : Call := ⟨.single, 0, 0, 0, 0, 0⟩

def callWith (a0 a1 a2 a3 : Word) : Call := ⟨.single, 0, a0, a1, a2, a3⟩

def groupCall : Call := ⟨.group, 1, 0, 0, 0, 0⟩

def allCall : Call := ⟨.all, 1, 0, 0, 0, 0⟩

theorem test_unknownCommand_refuses_code_of_ECHO : WellFormed (.unknownCommand 0x01 noCall) = false := by decide

theorem test_unknownCommand_refuses_code_of_RESET_STATION : WellFormed (.unknownCommand 0x10 noCall) = false := by decide

theorem test_unknownCommand_admits_codes_of_no_kind : WellFormed (.unknownCommand 0 noCall) = true ∧
    WellFormed (.unknownCommand 0x11 noCall) = true ∧ WellFormed (.unknownCommand 0xFF noCall) = true := by decide

theorem test_writeParam_refuses_numbers_with_their_own_row : WellFormed (.writeParam (callWith 3 0 0 0)) = false ∧
    WellFormed (.writeParam (callWith 6 0 0 0)) = false ∧ WellFormed (.writeParam (callWith 16 0 0 0)) = false ∧
    WellFormed (.writeParam (callWith 31 0 0 0)) = false := by decide

theorem test_writeParam_admits_the_others : WellFormed (.writeParam (callWith 15 0 0 0)) = true ∧
    WellFormed (.writeParam (callWith 32 0 0 0)) = true ∧ WellFormed (.writeParam (callWith 40 0 0 0)) = true := by decide

theorem test_no_word_spells_a_command : decodeTableWord 16 0 = none := rfl

theorem test_withFetchWord_changes_nothing : State.reset.withFetchWord 16 7 = State.reset := rfl

/-! ## States -/

/-- In LOCKED between cycles, at the completion of cycle 7. -/
def locked : State :=
  { State.reset with framer := ⟨.locked, some 100, some 2, some ⟨7, 50⟩, 0, 1, 3, none, none, none, 80⟩ }

/-- The same with the guard NORMAL. -/
def normal : State := { locked with guard := ⟨.normal, 0, 5, .line⟩ }

/-- The same with F 3 in COASTING, the coast limit. -/
def coasting (failures : Nat) : State :=
  { locked with framer := { locked.framer with acquisition := .coasting, failures := failures } }

def withFramer (f : Framer → Framer) (s : State) : State := { s with framer := f s.framer }

def withRet (f : ReturnPath → ReturnPath) (s : State) : State := { s with ret := f s.ret }

def withPlan (f : Plan → Plan) (s : State) : State := { s with plan := f s.plan }

def anEvent : Event := ⟨5, 1, 1, 0⟩

def aReply : Reply := ⟨1, 1, .done, 2, 3, 4⟩

def sent (seq : Byte) (last : Word) (resends : Nat) : Sent := ⟨.reply, #v[1, 2, 3, 4, 5], seq, false, last, resends⟩

/-- Three records in flight, the numbers 254 to 0. -/
def threeInFlight : State := withRet (fun r => { r with inFlight := [sent 254 1 0, sent 255 1 0, sent 0 2 0], nextSeq := 1 }) locked

def cycle (pos : Nat) : Cycle := ⟨true, 7, .a, 2, pos, 300, false, .running, 9⟩

/-- Slot 0 of an accepted cycle, header and six payload words in the delay line, under an entry. -/
def arriving (header w1 : Word) (e : Entry) (c : Cycle) : State :=
  { locked with
    fwd := { locked.fwd with line := (List.replicate 5 (plainCell .idle)) ++
      ([header, w1, 0, 0, 0, 0, 0].map fun w => plainCell (.word w)) }
    framer := { locked.framer with cycle := some c }
    plan := { locked.plan with bank0 := (Vector.replicate 128 Entry.pass).set 0 e } }

/-- The slot of `arriving` with its check. -/
def slotOf (header w1 : Word) : Slot := ⟨header, #v[w1, 0, 0, 0, 0, 0], 65535 - (header + w1)⟩

/-! ## The manual's examples -/

/-- R9, worked example: cycle 1234h, kind B, S 12. -/
theorem test_header_example : headerValid 0x1234 0x8CAD = true ∧ headerKind 0x8CAD = .b ∧ headerSlots 0x8CAD = 12 := by
  decide

theorem test_header_check_counts_the_kind : headerValid 0x1234 0x0CAD = false := by decide

/-- R64: the slot check of a released slot is 65535 minus the slot number. -/
theorem test_released_slot_check : slotCheck (slotHeader 0 false 1) zeroPayload = 0xFFFE := by decide

/-- Chapter 11: HELD slots 1 and 3 of station 4. -/
theorem test_owned_headers : slotHeader 4 true 1 = 0x0441 ∧ slotHeader 4 true 3 = 0x0443 := by decide

/-- R15, chapter 11: first words 0400h (reply, FIRST), 0C00h (the same resent), 0801h (a resend). -/
theorem test_record_words : recordWord false true .reply 0 = 0x0400 ∧ recordWord true true .reply 0 = 0x0C00 ∧
    recordWord true false .reply 1 = 0x0801 := by decide

/-- R165: tripped, cause set LINE, pin still active. -/
theorem test_guard_word_of_an_active_pin :
    guardWord { locked with guard := ⟨.tripped, 4, 0, .line⟩, pins := { locked.pins with guardHigh := false } } =
      33796 := by decide

/-- R81: P16 values 15, 9 and 7. -/
theorem test_configurations : configOf 15 = ⟨true, .fixed, true, true⟩ ∧ configOf 9 = ⟨true, .pattern, false, true⟩ ∧
    configOf 7 = ⟨true, .fixed, true, false⟩ := by decide

/-- R182: 65530 increased by 8 stands at 65535. -/
theorem test_counts_stop : addSaturating 65530 8 = 65535 ∧ addSaturating 65535 1 = 65535 ∧ addSaturating 65534 1 = 65535 := by
  decide

/-- R168: 33 names MISSED and REFUSED. -/
theorem test_33_names_missed_and_refused :
    clearCountersNamed 33 ⟨1, 2, 3, 4, 5, 6, 7⟩ = ⟨0, 2, 3, 4, 5, 0, 7⟩ := by decide

/-- R70: the destinations of station 4 in group 2 (P40 = 4). -/
theorem test_destinations : destinationType 4 4 4 = some .single ∧ destinationType 4 4 5 = none ∧
    destinationType 4 4 35 = some .group ∧ destinationType 4 4 34 = none ∧ destinationType 4 4 63 = some .all ∧
    destinationType 4 4 0 = none ∧ destinationType 4 4 49 = none ∧ destinationType 4 4 62 = none := by decide

/-! ## One step of every command -/

/-- The state after a command, the state itself where it stops. -/
def after (i : Instr) (s : State) : State :=
  match exec i s with
  | .next t => t
  | .fault _ => s
  | .refused _ => s

theorem test_powerUp_holds : (after .powerUp locked).inReset = true ∧ (after .powerUp locked).framer.acquisition = .hunt := by
  decide

theorem test_resetPin_keeps_parameters :
    (after .resetPinAsserted { locked with params := { locked.params with coastLimit := 9 } }).params.coastLimit = 9 := by
  decide

theorem test_hardwareReset_reads_straps : (after (.hardwareReset 31) locked).agent.address = 32 ∧
    (after (.hardwareReset 31) locked).guard.causes = 1 := by decide

theorem test_marker_is_judged_in_hunt :
    (after (.itemReceived .marker 0 []) State.reset).framer.judging = some ⟨1, .search, none⟩ := by decide

theorem test_stray_marker_between_cycles : (after (.itemReceived .marker 0 []) locked).flags = 8 := by decide

theorem test_cycleMissed_coasts : (after .cycleMissed (withFramer (fun f => { f with now := 146 }) locked)).framer.acquisition =
    .coasting := by decide

theorem test_cycleMissed_waits_for_the_window :
    (after .cycleMissed (withFramer (fun f => { f with now := 145 }) locked)).framer.acquisition = .locked := by decide

theorem test_planSwap_wraps : (after (.planSwap 1) (withPlan (fun p => { p with commit := some 65535 }) locked)).plan.active =
    .one := by decide

theorem test_planSwap_waits : (after (.planSwap 65534) (withPlan (fun p => { p with commit := some 65535 }) locked)).plan.commit =
    some 65535 := by decide

/-- R88, R103: the pin goes low, P6 is 0. -/
theorem test_guardPinActive_trips : (after .guardPinActive normal).guard = ⟨.tripped, 4, 7, .line⟩ ∧
    (after .guardPinActive normal).pins.guardHigh = false := by decide

theorem test_guardPinInactive_keeps_the_trip :
    (after .guardPinInactive (after .guardPinActive normal)).guard = ⟨.tripped, 4, 7, .line⟩ := by decide

theorem test_retryExpiry_below_the_interval : (after .retryExpiry threeInFlight).ret.resendAt = none := by decide

/-- R137: age 32 is P4. -/
theorem test_retryExpiry_at_the_interval :
    (after .retryExpiry (withFramer (fun f => { f with acceptedCount := 33 }) threeInFlight)).ret.resendAt = some 0 := by
  decide

theorem test_echo : (after (.echo (callWith 1 2 3 0)) locked).ret.replies = [⟨0, 1, .done, 1, 2, 3⟩] := by decide

theorem test_unknownCommand : (after (.unknownCommand 0x11 (callWith 1 2 3 4)) locked).ret.replies =
    [⟨0, 0x11, .unknown, 0, 0, 0⟩] := by decide

/-- R163: P61 is the identity. -/
theorem test_readParam_identity : (after (.readParam (callWith 61 0 0 0)) locked).ret.replies =
    [⟨0, 2, .done, 61, 2608, 0⟩] := by decide

theorem test_readParam_outside_the_table : (after (.readParam (callWith 9 0 0 0)) locked).ret.replies =
    [⟨0, 2, .unknown, 9, 0, 0⟩] := by decide

theorem test_writeParam_coastLimit : (after (.writeParam (callWith 1 15 0 0)) locked).ret.replies =
    [⟨0, 3, .done, 1, 15, 3⟩] := by decide

theorem test_writeParam_readOnly : (after (.writeParam (callWith 60 5 0 0)) locked).ret.replies =
    [⟨0, 3, .locked, 60, 1, 1⟩] := by decide

/-- R104: the pin is high; active-high makes it active. -/
theorem test_polarity_trips : (after (.writeGuardPinPolarity ⟨.single, 0, 1, 0, 0⟩) normal).guard.causes = 4 := by decide

theorem test_window_below_the_count : (after (.writeReturnWindow ⟨.single, 0, 2, 0, 0⟩) threeInFlight).ret.replies =
    [⟨0, 3, .busy, 3, 4, 4⟩] := by decide

theorem test_configuration_waits : (after (.writeChannelConfiguration 7 ⟨.single, 0, 9, 0, 0⟩) locked).channels[7].pending =
    some ⟨true, .pattern, false, true⟩ := by decide

theorem test_guardMode_locked : (after (.writeGuardMode 7 ⟨.single, 0, 2, 0, 0⟩) locked).ret.replies =
    [⟨0, 3, .locked, 31, 0, 0⟩] := by decide

theorem test_guardMode_at_once : (after (.writeGuardMode 7 ⟨.single, 0, 2, 0, 0⟩) normal).channels[7].guardMode = .low := by
  decide

/-- R43, R47: slot 1 of half B is OFFER ANY. -/
theorem test_readEntry_start_plan : (after (.readEntry (callWith 65 1 0 0)) locked).ret.replies =
    [⟨0, 4, .done, 3, 0, 1⟩] := by decide

theorem test_writeEntry_range : (after (.writeEntry (callWith 128 0 0 0)) locked).ret.replies = [⟨0, 5, .range, 0, 0, 0⟩] := by
  decide

theorem test_copyActive_pending : (after (.copyActive noCall) (withPlan (fun p => { p with commit := some 9 }) locked)).ret.replies =
    [⟨0, 6, .pending, 9, 0, 0⟩] := by decide

theorem test_commit : (after (.commit (callWith 8 0 0 0)) locked).ret.replies = [⟨0, 7, .done, 8, 7, 1⟩] := by decide

theorem test_commit_behind : (after (.commit (callWith 7 0 0 0)) locked).ret.replies = [⟨0, 7, .range, 7, 7, 0⟩] := by decide

theorem test_cancelCommit_notPending : (after (.cancelCommit noCall) locked).ret.replies = [⟨0, 8, .notPending, 0, 0, 0⟩] := by
  decide

theorem test_readStatus : (after (.readStatus noCall) { locked with flags := 0x0021 }).ret.replies =
    [⟨0, 9, .done, 0x0021, 32769, 0⟩] := by decide

theorem test_clearStatus : (after (.clearStatus (callWith 0x0020 0 0 0)) { locked with flags := 0x0021 }).flags = 1 := by decide

theorem test_readCounters : (after (.readCounters (callWith 6 0 0 0))
    { locked with counters := ⟨1, 2, 3, 4, 5, 6, 7⟩ }).ret.replies = [⟨0, 11, .done, 7, 0, 0⟩] := by decide

theorem test_clearCounters_group : (after (.clearCounters { groupCall with a0 := 64 })
    { locked with counters := ⟨1, 2, 3, 4, 5, 6, 7⟩ }).counters.abandoned = 0 := by decide

/-- R168: a0 in d0 whatever the result. -/
theorem test_clearCounters_range : (after (.clearCounters (callWith 128 0 0 0)) locked).ret.replies =
    [⟨0, 12, .range, 128, 0, 0⟩] := by decide

/-- R142: 255 covers 254 too. -/
theorem test_acknowledge : (after (.acknowledge (callWith 255 0 0 0)) threeInFlight).ret.inFlight = [sent 0 2 0] := by decide

theorem test_acknowledge_stray : (after (.acknowledge (callWith 1 0 0 0)) threeInFlight).flags = 0x0400 := by decide

theorem test_guardTrip : (after (.guardTrip noCall) normal).ret.replies = [⟨0, 14, .done, 16, 7, 1⟩] := by decide

theorem test_guardClear : (after (.guardClear noCall) locked).ret.replies = [⟨0, 15, .done, 1, 0, 1⟩] ∧
    (after (.guardClear noCall) locked).guard.state = .normal := by decide

/-- R171, chapter 11. -/
theorem test_resetStation : (after (.resetStation { noCall with tag := 9 }) locked).ret.replies =
    [⟨9, 16, .done, 1, 2608, 1⟩] ∧ (after (.resetStation { noCall with tag := 9 }) locked).guard = ⟨.tripped, 2, 7, .reset⟩ := by
  decide

theorem test_front_of_the_queue_runs_first : (match step { locked with pending := [.echo noCall, .guardTrip noCall] } with
    | .next t => t.pending
    | .fault _ => []
    | .refused _ => []) = [.guardTrip noCall] := by decide

theorem test_applyInstant_applies_the_ready_level :
    (after .applyInstant { locked with channels := channelsReset.set 2 { channelReset with ready := some true } }).channels[2] =
      { channelReset with applied := true } := by decide

theorem test_cycleCompleted_readies_the_staging : (after (.cycleCompleted [])
    { locked with
      framer := { (coasting 2).framer with cycle := some (cycle 18) }
      channels := channelsReset.set 2 { channelReset with staged := some true } }).channels[2].ready = some true := by decide

/-- The trailer of a cycle that collected one command arrives, with a FAULT or a GUARD pin change amid its execution. -/
def trailerAmid (code : Byte) (c : Call) (amid : List (List Amid)) : State :=
  let s := { arriving 0 0 .pass (cycle 18) with engine := ⟨[⟨0, code, c⟩], none⟩, guard := ⟨.tripped, 16, 5, .command⟩ }
  after (.itemReceived (.word (cycle 18).sum) 0 amid) s

/-- R180, the CLEAR-STATUS row: a FAULT taken first is cleared with the rest, one taken second stays set. -/
theorem test_fault_amid_a_clear : (trailerAmid 0x0A { noCall with a0 := 1 } [[.fault]]).flags = 0 ∧
    (trailerAmid 0x0A { noCall with a0 := 1 } [[], [.fault]]).flags = 1 := by decide

/-- R111: a pin change to the active level taken before a GUARD-CLEAR has it refused; taken after, it trips the guard anew. -/
theorem test_pin_amid_a_guard_clear : (trailerAmid 0x0F noCall [[.guardChange]]).guard = ⟨.tripped, 20, 5, .command⟩ ∧
    (trailerAmid 0x0F noCall [[], [.guardChange]]).guard = ⟨.tripped, 4, 7, .line⟩ := by decide

/-- R66, R180: a FAULT taken before the decision of a FILL STATUS slot shows in the word filled, one taken after does not.
The FAULT's own arrival moves the line on by one place. -/
theorem test_fault_amid_a_fill :
    let word := fun amid => (after (.itemReceived (.word 65535) 0 amid) (arriving 0 0 (.fill 0 .status) (cycle 9))).fwd.line[4]?
    (word [[.fault]]).map leavingItem = some (.word 1) ∧ (word [[], [.fault]]).map leavingItem = some (.word 0) := by decide

/-- A cycle at its header word B. -/
def nextCycle : Cycle :=
  { cycle 2 with net := 0 }

/-- The delay line at header word B of a cycle that follows its predecessor's trailer at once: the predecessor's last slot,
to leave rewritten with the check change 7, its trailer, and the marker and header of the new cycle. -/
def backToBack : State :=
  let line := [(⟨.word 0, some 1, some 7, 0, false⟩ : Cell)] ++ List.replicate 7 ⟨.word 0, some 1, none, 0, false⟩ ++
    [⟨.word 5, none, none, 7, true⟩] ++ ([.marker, .word 8, .word 0x0264] : List Item).map plainCell
  { locked with fwd := { locked.fwd with line := line }, framer := { locked.framer with cycle := some nextCycle } }

/-- R4, R78: none of the predecessor's slots is sent rewritten, so its trailer leaves unchanged, and so does the trailer of
the new cycle. -/
theorem test_reset_right_after_a_back_to_back_header :
    (after .resetPinAsserted backToBack).fwd.line.map leavingItem = backToBack.fwd.line.map Cell.arrived ∧
      (after .resetPinAsserted backToBack).fwd.kept = [] := by decide

/-- A vacant OFFER slot 0 of a class that has just passed. -/
def offeredAs (cls : OfferClass) (r : ReturnPath) : State :=
  { arriving 0 0 (.offer cls) (cycle 10) with
    fwd := { locked.fwd with line := (List.replicate 4 (plainCell .idle)) ++
      ([0, 0, 0, 0, 0, 0, 0, 65535].map fun w => plainCell (.word w)) }
    ret := r }

/-- A vacant OFFER ANY slot that has just passed. -/
def offered (r : ReturnPath) : State :=
  offeredAs .any r

/-- R135: number 0 with FIRST 1. -/
theorem test_recordSent_first : (after .recordSent (offered { returnReset with replies := [aReply] })).ret =
    { returnReset with
      inFlight := [⟨.reply, #v[1, 1, 2, 3, 4], 0, true, 3, 0⟩], nextSeq := 1, firstMark := false } := by decide

/-- R136: the newest entry ends resend mode. -/
theorem test_recordResent_newest :
    (after .recordResent (offered { threeInFlight.ret with resendAt := some 2 })).ret.resendAt = none ∧
      (after .recordResent (offered { threeInFlight.ret with resendAt := some 2 })).ret.inFlight =
        [sent 254 1 0, sent 255 1 0, sent 0 3 1] := by decide

/-! ## States that meet the hypotheses of the statements -/

/-- A command of every destination type with tag 0 or 1 executes at the completion of `locked`. -/
theorem executes_locked (d : DestType) (t : Byte) (h : t = 0 ∨ t = 1) : Executes d t locked := by
  rcases h with rfl | rfl <;> cases d <;> exact ⟨by decide, by decide⟩

theorem executes_normal (d : DestType) (t : Byte) (h : t = 0 ∨ t = 1) : Executes d t normal := by
  rcases h with rfl | rfl <;> cases d <;> exact ⟨by decide, by decide⟩

/-- A slot of `arriving` passes undamaged, whatever its words and its entry. -/
theorem arriving_passes (header w1 : Word) (e : Entry) (h : (header &&& 0x003F).toNat = 0) :
    SlotPasses (cycle 9) 0 (65535 - (header + w1)) (slotOf header w1) e (arriving header w1 e (cycle 9)) := by
  refine ⟨⟨rfl, rfl, rfl, rfl, by decide⟩, rfl, rfl, ⟨?_, h⟩, ?_⟩
  · show 65535 - (header + w1) = 65535 - (header + w1 + 0 + 0 + 0 + 0 + 0)
    simp
  · simp [steering, arriving, cycle, locked, State.reset, planReset]

theorem witness_StepRunsTheFrontCommand : State.reset.pending = [] := rfl

theorem witness_RowsOutsideTheirMomentChangeNothing :
    (commandRecord (.echo noCall) ≠ none ∧ atCompletion State.reset = false) ∧ atMarker State.reset = false ∧
      windowReached State.reset = false ∧ offeredSlot State.reset = none ∧
      (follows State.reset = false ∧ (cycle 17).pos + 1 ≠ 8 * (cycle 17).slots + 3 ∧
        { cycle 18 with status := .completed }.status ≠ .running) ∧
      (offered { threeInFlight.ret with resendAt := some 0 }).ret.resendAt ≠ none ∧ State.reset.ret.resendAt = none ∧
      (offered threeInFlight.ret).ret.inFlight.length = 3 ∧
      ({ threeInFlight.params with returnWindow := 3 } : Params).returnWindow.toNat ≤ threeInFlight.ret.inFlight.length ∧
      (State.reset.ret.replies = [] ∧ State.reset.ret.events = []) := by decide

theorem witness_PowerUpAndResetPinHoldTheStation : (List.replicate 12 Item.marker).length ≤ 12 := by decide

theorem witness_HardwareReset_after_a_hold : (after .powerUp locked).inReset = true := by decide

theorem witness_HeldStationOnlyForwards : (after .resetPinAsserted locked).inReset = true ∧
    commandRecord (.echo noCall) ≠ none := by decide

theorem witness_ForwardingShiftsOneItem : Amid.fault ∉ [[Amid.guardChange]].flatten ∧ locked.fwd.line.length = 12 ∧
    locked.fwd.line.head? = some (plainCell .idle) := by decide

theorem witness_OnlyAcceptedCyclesAreRewritten : Amid.fault ∉ [[Amid.guardChange]].flatten ∧
    (∀ c, locked.framer.cycle = some c → c.accepted = true → locked.framer.judging ≠ none) ∧
      commandRecord (.guardTrip noCall) ≠ none := ⟨by decide, (fun c h => nomatch h), by decide⟩

theorem witness_FaultSetsWordFaultAndFlagsAreSticky : locked.inReset = false ∧
    (after .resetPinAsserted locked).inReset = true ∧
    (WellFormed (.guardTrip noCall) = true ∧ ({ locked with flags := 1 } : State).flags.getLsbD 0 = true ∧
      locked.engine.held = []) := by decide

theorem witness_RewrittenSlot : Undamaged 0 (slotOf 0 7) ∧ (offered returnReset).fwd.line.length = 12 ∧
    ∀ c ∈ (offered returnReset).fwd.line.drop 4, (∃ v, c.arrived = .word v) ∧ c.adjust = 0 := by
  refine ⟨⟨by decide, by decide⟩, by decide, ?_⟩
  intro c hc
  simp [offered, offeredAs] at hc
  rcases hc with rfl | rfl <;> exact ⟨⟨_, rfl⟩, rfl⟩

theorem witness_TrailerLeavesWithTheNetCheckChange : Amid.fault ∉ [[Amid.guardChange]].flatten ∧
    (arriving 0 0 .pass (cycle 18)).inReset = false ∧ (arriving 0 0 .pass (cycle 18)).framer.judging = none ∧
      (arriving 0 0 .pass (cycle 18)).framer.cycle = some (cycle 18) ∧ (cycle 18).accepted = true ∧
      (cycle 18).pos + 1 = 8 * (cycle 18).slots + 3 ∧ (arriving 0 0 .pass (cycle 18)).fwd.kept = [] := by decide

/-- Slot 0 of a cycle rewritten with the check change 5, its first word three item times from leaving, and its trailer. -/
def rewrittenInLine : State :=
  { locked with fwd := { locked.fwd with line := List.replicate 3 (plainCell .idle) ++
      [⟨.word 0, some 1, some 5, 0, false⟩] ++ List.replicate 7 ⟨.word 0, some 1, none, 0, false⟩ ++
      [⟨.word 5, none, none, 14, true⟩] } }

/-- A trailer kept through a reset that is still under way. -/
def keeping (n : Nat) (w : Word) : State :=
  { after .resetPinAsserted locked with fwd := { locked.fwd with kept := [⟨n, w⟩] } }

theorem witness_AssertedResetFinishesWhatHasBegunToLeave :
    (let places := rewrittenInLine.fwd.line
     places[3]? = some ⟨.word 0, some 1, some 5, 0, false⟩ ∧ (∀ d ∈ (places.drop 4).take 7, d.change = none) ∧
       (∀ c ∈ places.take 3, c.change = none) ∧ places[11]? = some ⟨.word 5, none, none, 14, true⟩ ∧
       (∀ d ∈ places.take 11, d.trailer = false) ∧ (∀ d ∈ (places.take 11).drop (11 - 7), d.change = none) ∧
       withdrawnChange (places.take 11) = 5 ∧ rewrittenInLine.framer.cycle = none ∧ rewrittenInLine.inReset = false) ∧
    backToBack.framer.cycle = some nextCycle ∧
    (∀ n w, (keeping n w).fwd.kept = [⟨n, w⟩] ∧ (keeping n w).inReset = true) ∧ (0 < 1 ∧ 0 < 2 ∧ 1 < 2) := by
  refine ⟨by decide, rfl, fun n w => ⟨rfl, rfl⟩, by decide⟩

/-- R4, R73, by hand: of a slot change of 9 and an unsent one of 5 the trailer keeps 9; at its position it is added. -/
theorem test_kept_trailer :
    (after .resetPinAsserted rewrittenInLine).fwd.line.map leavingItem = List.replicate 3 .idle ++
      List.replicate 8 (.word 0) ++ [.word 14] ∧
    ((after (.itemReceived (.word 3) 0 []) (keeping 1 9)).fwd.line.getLast?.map leavingItem = some (.word 12)) ∧
    (after (.itemReceived (.word 3) 0 []) (keeping 2 9)).fwd.kept = [⟨1, 9⟩] := by decide

/-- A marker judged for a purpose, after header word A or before it. -/
def judged (acq : Acquisition) (p : Purpose) (a : Option Word) : State :=
  withFramer (fun f => { f with acquisition := acq, judging := some ⟨150, p, a⟩ }) locked

/-- Header word B of a kind A cycle: S in places 14 to 8 and the check of R9 over word A 8 (boundary values of S). -/
theorem header_one_slot : HeaderOk 8 0x0163 ∧ slotsOf 0x0163 = 1 := ⟨⟨by decide, by decide, by decide⟩, by decide⟩

theorem header_two_slots : HeaderOk 8 0x0264 ∧ slotsOf 0x0264 = 2 := ⟨⟨by decide, by decide, by decide⟩, by decide⟩

theorem header_64_slots : HeaderOk 8 0x40A2 ∧ slotsOf 0x40A2 = 64 := ⟨⟨by decide, by decide, by decide⟩, by decide⟩

theorem header_65_slots_not_ok : ¬ HeaderOk 8 0x41A3 := fun h => absurd h.2.2 (by decide)

theorem header_0_slots_not_ok : ¬ HeaderOk 8 0x0062 := fun h => absurd h.2.1 (by decide)

theorem witness_HuntJudgesMarkersAndEntersConfirm :
    (State.reset.inReset = false ∧ State.reset.framer.acquisition = .hunt ∧ State.reset.framer.judging = none ∧
      State.reset.framer.cycle = none) ∧ Item.word 3 ≠ .marker ∧
      (judged .hunt .search none).framer.judging = some ⟨150, .search, none⟩ ∧
      (judged .hunt .search (some 8)).framer.judging = some ⟨150, .search, some 8⟩ ∧
      (judged .hunt .search none).inReset = false := by decide

/-- In HUNT after a link loss, with the cycle whose spoil caused it still counted (R36). -/
def huntingInside (pos : Nat) : State :=
  { State.reset with framer := { State.reset.framer with cycle := some { cycle pos with status := .spoiled } } }

theorem witness_Hunt_inside_a_spoiled_cycle :
    (∀ pos, (huntingInside pos).inReset = false ∧ (huntingInside pos).framer.acquisition = .hunt ∧
      (huntingInside pos).framer.judging = none ∧
      (huntingInside pos).framer.cycle = some { cycle pos with status := .spoiled } ∧ (cycle pos).accepted = true ∧
      (cycle pos).slots = 2) ∧
    (2 + 1 < 8 * 2 + 3 ∧ 17 + 1 < 8 * 2 + 3 ∧ 18 + 1 = 8 * 2 + 3) :=
  ⟨fun _ => ⟨rfl, rfl, rfl, rfl, rfl, rfl⟩, by decide⟩

/-- R61: the slot cut short is damaged and counted once, and the MARKER is no stray one. -/
theorem test_marker_in_hunt_inside_a_spoiled_cycle :
    (after (.itemReceived .marker 0 []) (huntingInside 17)).flags = 2 ∧
      (after (.itemReceived .marker 0 []) (huntingInside 17)).counters.damaged = 1 ∧
      (after (.itemReceived .marker 0 []) (huntingInside 18)).flags = 0 := by decide

/-- The candidate of CONFIRM, 100 item times before the judged marker. -/
def confirming (good : Nat) (reference : Option Nat) (judging : Option Judging) (c : Option Cycle) : State :=
  { State.reset with framer :=
    ⟨.confirm, reference, some 2, none, 0, 0, 3, some ⟨7, 50, 2, good, 3⟩, judging, c, 152⟩ }

def candidateAt (pos : Nat) (fault : Bool) : Cycle := ⟨false, 7, .a, 2, pos, 300, fault, .running, 0⟩

theorem witness_CandidateCompletesOrFails :
    let s := confirming 0 none none (some (candidateAt 18 false))
    (s.inReset = false ∧ s.framer.judging = none ∧ s.framer.cycle = some (candidateAt 18 false) ∧
      s.framer.candidate = some ⟨7, 50, 2, 0, 3⟩) ∧ (candidateAt 18 false).accepted = false ∧
      (candidateAt 18 false).pos + 1 = 8 * (candidateAt 18 false).slots + 3 ∧
      Item.word 301 ≠ .word (candidateAt 18 false).sum ∧ (candidateAt 18 true).checkFault = true ∧
      ((candidateAt 17 false).pos + 1 < 8 * (candidateAt 17 false).slots + 3 ∧ ((candidateAt 17 false).pos + 1) % 8 = 2) ∧
      ((candidateAt 16 false).pos + 1 < 8 * (candidateAt 16 false).slots + 3 ∧ ((candidateAt 16 false).pos + 1) % 8 ≠ 2) ∧
      (2 ≤ (candidateAt 2 false).pos ∧ ((candidateAt 2 false).pos + 1) % 8 ≠ 2) := by decide

theorem witness_SuccessorIsTheNewCandidateOrARestart :
    (confirming 2 (some 104) (some ⟨150, .successor, some 8⟩) none).framer.judging = some ⟨150, .successor, some 8⟩ ∧
      (8 : Word) = 7 + 1 ∧ slotsOf 0x0264 = 2 ∧ 150 - 50 ≤ 250000 ∧ (104 - 4 ≤ 150 - 50 ∧ 150 - 50 ≤ 104 + 4) ∧
      ¬ (105 - 4 ≤ 150 - 50) ∧ ¬ 150 - 50 ≤ 95 + 4 ∧ (96 - 4 ≤ 150 - 50 ∧ 150 - 50 ≤ 96 + 4) ∧ (2 : Nat) < 3 ∧
      slotsOf 0x0163 ≠ 2 ∧
      (confirming 2 none (some ⟨150, .successor, none⟩) none).framer.judging = some ⟨150, .successor, none⟩ ∧
      (confirming 2 none (some ⟨150, .successor, none⟩) none).inReset = false := by decide

theorem witness_PassingMarkerEntersLocked :
    let s := confirming 3 (some 100) (some ⟨150, .successor, some 8⟩) none
    s.inReset = false ∧ s.framer.judging = some ⟨150, .successor, some 8⟩ ∧
      s.framer.candidate = some ⟨7, 50, 2, 3, 3⟩ ∧ slotsOf 0x0264 = 2 ∧ (3 : Nat) ≤ 3 ∧
      s.framer.reference = some 100 ∧ s.ret.events.length ≤ 12 := by decide

/-- The expected marker of cycle 8 under judgement. -/
theorem witness_ExpectedMarkerIsAccepted :
    let s := judged .locked .window (some 8)
    s.inReset = false ∧ s.framer.last = some ⟨7, 50⟩ ∧ (7 : Word) + BitVec.ofNat 16 s.framer.position = 8 ∧
      s.framer.judging = some ⟨150, .window, some 8⟩ ∧ s.framer.slotCount = some (slotsOf 0x0264) := by decide

theorem witness_ExpectedMarker_commit_and_retry :
    (judged .locked .window (some 8)).ret.events.length ≤ 12 ∧
      ((8 : Word) - 8).toNat ≤ 32767 ∧ ((8 : Word) - 32777).toNat = 32767 ∧ ((8 : Word) - 32776).toNat = 32768 ∧
      (((33 : Word) - 1).toNat = 32 ∧ locked.params.retryInterval.toNat = 32) ∧ ((32 : Word) - 1).toNat < 32 ∧
      (sent 254 1 7).resends < locked.params.retryLimit.toNat ∧
      locked.params.retryLimit.toNat ≤ (sent 254 1 8).resends ∧ threeInFlight.ret.resendAt = none := by decide

/-- An input that rises at the second sample with a confirm count of 1. -/
def rising : State :=
  { judged .locked .window (some 8) with
    sampler := ⟨false, Vector.replicate 8 ⟨some false, 4, false, false⟩⟩
    params := { paramsReset with confirmCount := 1, edgeModes := 1 } }

theorem witness_SampleWithAnEdgeQueuesItsEvent :
    rising.inReset = false ∧ rising.framer.last = some ⟨7, 50⟩ ∧
      rising.framer.judging = some ⟨150, .window, some 8⟩ ∧ rising.framer.slotCount = some (slotsOf 0x0264) ∧
      (sampledLines rising.params.confirmCount 1 rising.sampler).lines[0] = ⟨some true, 1, true, true⟩ ∧
      rising.params.edgeModes.getLsbD 0 = true ∧ rising.ret.events.length ≤ 11 := by decide

/-- The same input at the marker of relocking. -/
def risingAtLock : State :=
  { rising with framer := (confirming 3 (some 100) (some ⟨150, .successor, some 8⟩) none).framer }

theorem witness_SampleWithAnEdge_at_the_locking_marker :
    risingAtLock.inReset = false ∧ risingAtLock.framer.judging = some ⟨150, .successor, some 8⟩ ∧
      risingAtLock.framer.candidate = some ⟨7, 50, 2, 3, 3⟩ ∧ slotsOf 0x0264 = 2 ∧
      risingAtLock.framer.reference = some 100 ∧ risingAtLock.params.edgeModes.getLsbD 0 = true ∧
      (sampledLines risingAtLock.params.confirmCount 1 risingAtLock.sampler).lines[0] = ⟨some true, 1, true, true⟩ ∧
      risingAtLock.ret.events.length ≤ 10 := by decide

theorem witness_WindowsJudgeRefuseAndCloseOnMarkers :
    (let s := judged .locked .window (some 9)
     s.inReset = false ∧ s.framer.acquisition = .locked ∧ s.framer.last = some ⟨7, 50⟩ ∧
       s.framer.judging = some ⟨150, .window, some 9⟩ ∧ (9 : Word) ≠ 7 + BitVec.ofNat 16 s.framer.position) ∧
    (let s := judged .coasting .window none
     s.inReset = false ∧ follows s = true ∧ s.framer.last = some ⟨7, 50⟩ ∧
       s.framer.judging = some ⟨150, .window, none⟩ ∧ s.framer.slotCount ≠ some (slotsOf 0x0163)) ∧
    (let s := fun now => withFramer (fun f => { f with now := now }) locked
     (s 144).framer.now + 1 + 4 < 50 + 1 * 100 ∧ (s 145).framer.now + 1 + 4 = 50 + 1 * 100 ∧
       (s 153).framer.now + 1 = 50 + 1 * 100 + 4 ∧ 50 + 1 * 100 + 4 < (s 154).framer.now + 1 ∧
       follows (s 144) = true ∧ (s 144).framer.judging = none ∧ (s 144).framer.cycle = none ∧
       (s 144).framer.last = some ⟨7, 50⟩ ∧ (s 144).framer.reference = some 100 ∧ (s 144).framer.position = 1) := by decide

theorem witness_MissedCycleCoastsOrLosesTheLink :
    (let s := withFramer (fun f => { f with now := 146 }) locked
     s.inReset = false ∧ s.framer.cycle = none ∧ s.framer.last = some ⟨7, 50⟩ ∧ s.framer.reference = some 100 ∧
       50 + s.framer.position * 100 ≤ s.framer.now + 4 ∧ s.framer.acquisition = .locked) ∧
    (coasting 2).framer.failures + 1 ≤ (coasting 2).params.coastLimit.toNat ∧
    (coasting 3).params.coastLimit.toNat < (coasting 3).framer.failures + 1 ∧
    (coasting 3).framer.acquisition = .coasting := by decide

/-- The same in COASTING at the coast limit. -/
def arrivingCoasting (c : Cycle) : State :=
  withFramer (fun f => { f with acquisition := .coasting, failures := 3 }) (arriving 0 0 .pass c)

theorem witness_ItemsSpoilAnAcceptedCycle :
    (∀ c, (arrivingCoasting c).inReset = false ∧ follows (arrivingCoasting c) = true ∧
      (arrivingCoasting c).framer.judging = none ∧ (arrivingCoasting c).framer.cycle = some c ∧
      (arrivingCoasting c).framer.acquisition = .coasting ∧
      (arrivingCoasting c).params.coastLimit.toNat < (arrivingCoasting c).framer.failures + 1 ∧
      follows (arriving 0 0 .pass c) = true) ∧
    (∀ pos, (cycle pos).accepted = true ∧ (cycle pos).status = .running ∧ (cycle pos).slots = 2) ∧
    ((2 + 1) % 8 ≠ 2 ∧ (9 + 1) % 8 = 2 ∧ (16 + 1) % 8 ≠ 2 ∧ (17 + 1) % 8 = 2 ∧ 17 + 1 < 8 * 2 + 3 ∧ 18 + 1 = 8 * 2 + 3) ∧
    Item.word 301 ≠ .word (cycle 18).sum ∧ { cycle 18 with checkFault := true }.checkFault = true :=
  ⟨fun _ => ⟨rfl, rfl, rfl, rfl, rfl, by show (3 : Word).toNat < 4; decide, rfl⟩, fun _ => ⟨rfl, rfl, rfl⟩, by decide,
    by decide⟩

theorem witness_ItemsSpoil_already_spoiled :
    (let c := { cycle 18 with status := .spoiled }
     (arrivingCoasting c).framer.cycle = some c ∧ c.accepted = true ∧ c.status = .spoiled ∧
       c.pos + 1 = 8 * c.slots + 3 ∧ follows (arrivingCoasting c) = true) ∧
    ((huntingInside 18).framer.judging = none ∧ Item.word 300 ≠ .marker) := by decide

/-- R32: the trailer of a spoiled cycle completes nothing, though it is the cycle check. -/
theorem test_trailer_of_a_spoiled_cycle :
    let t := after (.itemReceived (.word 300) 0 []) (arrivingCoasting { cycle 18 with status := .spoiled })
    t.framer.acquisition = .coasting ∧ t.framer.failures = 3 ∧ t.framer.cycle = none ∧ t.flags = 0 := by decide

/-- The trailer of a cycle is due that collected an ECHO and a GUARD-TRIP. -/
def trailerNext : State :=
  { arriving 0 0 .pass (cycle 18) with engine := ⟨[⟨0, 1, noCall⟩, ⟨1, 0x0E, noCall⟩], none⟩ }

theorem witness_CorrectTrailerCompletesTheCycle :
    trailerNext.inReset = false ∧ follows trailerNext = true ∧ trailerNext.framer.judging = none ∧
      trailerNext.framer.cycle = some (cycle 18) ∧ (cycle 18).accepted = true ∧ (cycle 18).status = .running ∧
      (cycle 18).checkFault = false ∧ (cycle 18).pos + 1 = 8 * (cycle 18).slots + 3 ∧
      (∀ e ∈ trailerNext.engine.held, e.code ≠ 0x10) ∧ [[Amid.guardChange], [Amid.fault]].flatten.count .fault = 1 := by
  decide

/-- R111, R154: two entries and three places; the second entry finds the LINE trip, the FAULT comes after both. -/
theorem test_amid_a_held_list :
    let t := after (.itemReceived (.word (cycle 18).sum) 0 [[], [.guardChange], [.fault]])
      { trailerNext with guard := normal.guard }
    t.ret.replies = [⟨0, 1, .done, 0, 0, 0⟩, ⟨0, 14, .done, 20, 7, 0⟩] ∧ t.flags = 1 ∧ t.framer.now = 82 := by decide

theorem witness_CompletionRunsTheHeldListInSlotOrder :
    (trailerNext.inReset = false ∧ follows trailerNext = true ∧ trailerNext.framer.cycle = some (cycle 18) ∧
      ∀ e ∈ trailerNext.engine.held, e.code ≠ 0x10) ∧
    (commandRecord (.echo noCall) = some (0x01, noCall) ∧ atCompletion locked = true) ∧
    ((⟨0, 0x10, noCall⟩ : HeldEntry).code = 0x10 ∧ noCall.a0 = 0 ∧ noCall.a1 = 0 ∧ noCall.a2 = 0 ∧ noCall.a3 = 0) := by
  decide

/-- A RESET-STATION executes right after a GUARD pin change and a FAULT. -/
theorem witness_Completion_reset_with_events_before_it :
    Executes .single 0 (([[.guardChange, .fault], [.fault]] : List (List Amid)).headD [] |>.foldl amidTaken normal) :=
  ⟨by decide, by decide⟩

/-- A RESET-STATION that is refused, a duplicate of either tag, or without a reply place. -/
theorem witness_Completion_reset_that_does_not_execute :
    locked.inReset = false ∧ (⟨0, 0x10, callWith 1 0 0 0⟩ : HeldEntry).code = 0x10 ∧ (callWith 1 0 0 0).a0 ≠ 0 ∧
    (let s : State := { locked with agent := ⟨1, 1, some aReply, 1⟩ }
     (1 : Byte) ≠ 0 ∧ (1 : Byte) = s.agent.stationTag ∧ groupCall.dest ≠ .single ∧ groupCall.tag ≠ 0 ∧
       groupCall.tag = s.agent.groupTag) ∧
    8 ≤ (withRet (fun r => { r with replies := List.replicate 8 aReply }) locked).ret.replies.length := by decide

/-- R170: a RESET-STATION in the trailer's held list ends it; with an argument it is refused and the list goes on. -/
theorem test_reset_in_a_held_list :
    let replies := fun c => (after (.itemReceived (.word (cycle 18).sum) 0 [])
      { trailerNext with engine := ⟨[⟨0, 0x10, c⟩, ⟨1, 1, noCall⟩], none⟩ }).ret.replies
    replies noCall = [⟨0, 16, .done, 1, 2608, 1⟩] ∧
      replies (callWith 1 0 0 0) = [⟨0, 16, .range, 0, 0, 0⟩, ⟨0, 1, .done, 0, 0, 0⟩] := by decide

theorem witness_SwapAtOrAfterTheTarget : atMarker locked = true ∧ locked.plan.active = .zero ∧
    (withPlan (fun p => { p with active := .one, commit := some 7 }) locked).plan.active = .one ∧
    ((7 : Word) - 7).toNat ≤ 32767 ∧ ((32774 : Word) - 7).toNat = 32767 ∧ 32768 ≤ ((32775 : Word) - 7).toNat ∧
    locked.plan.commit = none := by decide

theorem witness_WriteEntryReplacesAStandbyEntry :
    ((127 : Word).toNat ≤ 127 ∧ (2 : Word) = actionCode (.fill 5 .queues) ∧ (6 : Word) = wordCode (.fill 5 .queues) ∧
      (4 : Word) = optionCode (.fill 5 .queues)) ∧ locked.plan.commit = none ∧ locked.plan.active = .zero ∧
      (withPlan (fun p => { p with commit := some 9 }) locked).plan.commit = some 9 ∧ 127 < (128 : Word).toNat := by decide

theorem witness_EntryCodes : entryOfArgs 1 6 1 = some (.take 5 true) ∧ entryOfArgs 1 7 1 = none ∧
    entryOfArgs 3 0 3 = some (.offer .event) ∧ entryOfArgs 3 0 4 = none ∧ entryOfArgs 5 0 0 = none := by decide

theorem witness_no_arguments : NoArguments noCall ∧ ¬ NoArguments (callWith 0 0 0 1) :=
  ⟨⟨rfl, rfl, rfl, rfl⟩, fun h => absurd h.2.2.2 (by decide)⟩

theorem witness_CopyActiveOverwritesTheStandbyBank : locked.plan.commit = none ∧ locked.plan.active = .zero ∧
    (withPlan (fun p => { p with active := .one }) locked).plan.active = .one := by decide

theorem witness_ReadEntryReturnsTheEntrysCodes : (callWith 127 1 0 0).dest = .single ∧
    locked.plan.bank1[127]? = some .pass ∧ locked.plan.active = .zero ∧ (1 : Word).toNat ≤ 1 ∧ 1 < (2 : Word).toNat ∧
    (groupCall.dest ≠ .single ∧ atCompletion locked = true) := by decide

theorem witness_WrittenEntry_reads_back : locked.plan.commit = none ∧ (127 : Word).toNat ≤ 127 ∧
    (entryOfArgs 1 6 1).isSome = true ∧ atCompletion (after (.writeEntry (callWith 127 1 6 1)) locked) = true ∧
    (after (.writeEntry (callWith 127 1 6 1)) locked).ret.replies.length = 1 := by decide

theorem witness_CommitAndCancelCommitKeepOnePendingCommit : lastAccepted locked = 7 ∧ ((8 : Word) - 7).toNat = 1 ∧
    ((32774 : Word) - 7).toNat = 32767 ∧ ((7 : Word) - 7).toNat = 0 ∧ 32767 < ((32775 : Word) - 7).toNat ∧
    locked.plan.commit = none := by decide

theorem witness_TakeStagesThePatternAndReleases :
    SlotPasses (cycle 9) 0 (65535 - (0x0040 + 0xFF81)) (slotOf 0x0040 0xFF81) (.take 0 true)
      (arriving 0x0040 0xFF81 (.take 0 true) (cycle 9)) ∧ arrivedHeld (slotOf 0x0040 0xFF81) = true ∧
    SlotPasses (cycle 9) 0 (65535 - (0 + 0)) (slotOf 0 0) (.take 5 false) (arriving 0 0 (.take 5 false) (cycle 9)) ∧
    arrivedHeld (slotOf 0 0) = false :=
  ⟨arriving_passes _ _ _ (by decide), by decide, arriving_passes _ _ _ (by decide), by decide⟩

theorem witness_FillWritesItsSourceWordOrCollides :
    SlotPasses (cycle 9) 0 (65535 - (0 + 0)) (slotOf 0 0) (.fill 0 .status) (arriving 0 0 (.fill 0 .status) (cycle 9)) ∧
    SlotPasses (cycle 9) 0 (65535 - (0x3F40 + 1)) (slotOf 0x3F40 1) (.fill 0 .inputs)
      (arriving 0x3F40 1 (.fill 0 .inputs) (cycle 9)) ∧ arrivedHeld (slotOf 0x3F40 1) = true ∧
    (locked.ret.replies.length ≤ 8 ∧ locked.ret.events.length ≤ 16 ∧ locked.ret.inFlight.length ≤ 8) :=
  ⟨arriving_passes _ _ _ (by decide), arriving_passes _ _ _ (by decide), by decide, by decide⟩

theorem witness_OfferSlotServesTheReturnPath :
    SlotPasses (cycle 9) 0 (65535 - (0 + 0)) (slotOf 0 0) (.offer .any) (arriving 0 0 (.offer .any) (cycle 9)) ∧
    follows (arriving 0 0 (.offer .any) (cycle 9)) = true ∧ (arriving 0 0 (.offer .any) (cycle 9)).fwd.line.length = 12 ∧
    (∀ d ∈ (arriving 0 0 (.offer .any) (cycle 9)).fwd.line.drop 5, d.change = none) ∧
    (arriving 0 0 (.offer .any) (cycle 9)).ret.resendAt = none :=
  ⟨arriving_passes _ _ _ (by decide), by decide, by decide, by decide, by decide⟩

/-- A command record for station 1, for group 33, for all stations, and for another station. -/
theorem witness_ManageCollectsTheStationsCommands :
    SlotPasses (cycle 9) 0 (65535 - (0x0040 + 0x0101)) (slotOf 0x0040 0x0101) (.manage true)
      (arriving 0x0040 0x0101 (.manage true) (cycle 9)) ∧
    (arriving 0x0040 0x0101 (.manage true) (cycle 9)).agent.address.toNat = 1 ∧
    ((slotOf 0x0040 0x0101).payload[0].toNat % 64 = 1 ∧ (slotOf 0x0040 0x0121).payload[0].toNat % 64 = 33 ∧
      (slotOf 0x0040 0x0130).payload[0].toNat % 64 = 48 ∧ (slotOf 0x0040 0x013F).payload[0].toNat % 64 = 63 ∧
      (slotOf 0x0040 0x0120).payload[0].toNat % 64 = 32 ∧ (slotOf 0x0040 0x0131).payload[0].toNat % 64 = 49) ∧
    ((slotOf 0x0040 0x0101).header.toNat / 256 % 64 = 0 ∧ (slotOf 0x0140 0x0101).header.toNat / 256 % 64 ≠ 0) :=
  ⟨arriving_passes _ _ _ (by decide), by decide, by decide, by decide⟩

theorem witness_DamagedPassedAndSpoiledSlotsAreLeftAlone :
    (((arriving 0 0 .pass (cycle 2)).framer.cycle = some (cycle 2) ∧ follows (arriving 0 0 .pass (cycle 2)) = true) ∧
      (2 ≤ (cycle 2).pos ∧ ((cycle 2).pos + 1) % 8 ≠ 2 ∧ ((cycle 16).pos + 1) % 8 ≠ 2 ∧
        (cycle 16).pos + 1 < 8 * (cycle 16).slots + 3) ∧ { cycle 16 with status := .spoiled }.status = .spoiled) ∧
    slotOfItems (lastSlotItems (forwardItem .idle (arriving 0 0 .pass { cycle 9 with status := .spoiled }).fwd)) = none ∧
    SlotEnds (cycle 9) 0 (arriving 0 0 .pass (cycle 9)) ∧
    (∀ sl, slotOfItems (lastSlotItems (forwardItem .fault (arriving 0 0 .pass (cycle 9)).fwd)) = some sl → ¬ Undamaged 0 sl) ∧
    SlotPasses (cycle 9) 0 (65535 - (0 + 0)) (slotOf 0 0) .pass (arriving 0 0 .pass (cycle 9)) ∧
    SlotEnds { cycle 9 with status := .spoiled } 0 (arriving 0 0 .pass { cycle 9 with status := .spoiled }) :=
  ⟨by decide, by decide, ⟨rfl, rfl, rfl, rfl, by decide⟩,
    fun sl h => by
      have h0 : slotOfItems (lastSlotItems (forwardItem .fault (arriving 0 0 .pass (cycle 9)).fwd)) = none := by decide
      rw [h0] at h
      exact absurd h (by simp),
    arriving_passes _ _ _ (by decide), ⟨rfl, rfl, rfl, rfl, by decide⟩⟩

theorem witness_ApplyInstant : atMarker locked = true := by decide

/-- Channel 0 enabled with a guard mode, held, under a TRIPPED guard. -/
def guarded (mode : GuardMode) : State :=
  { locked with channels := channelsReset.set 0 { channelReset with
      config := ⟨true, .fixed, true, true⟩, guardMode := mode, held := true } }

theorem witness_PinDriveFollowsItsTable :
    GuardLaw (guarded .low) ∧ (guarded .low).inReset = false ∧ (guarded .low).guard.state = .tripped ∧
      (guarded .low).channels[0].config.enable = true ∧ (guarded .low).channels[0].guardMode = .low ∧
      (guarded .high).channels[0].guardMode = .high ∧ (guarded .float).channels[0].guardMode = .float ∧
      locked.channels[0].config.enable = false ∧ (after .resetPinAsserted locked).inReset = true :=
  ⟨⟨by decide, by decide, by decide⟩, by decide⟩

theorem witness_ChannelParametersAreWritten : (15 : Word).toNat ≤ 15 ∧ 15 < (16 : Word).toNat ∧ (3 : Word).toNat ≤ 3 ∧
    3 < (4 : Word).toNat ∧ ¬ (normal.guard.state = .tripped ∨ normal.channels[7].held = true) ∧
    locked.guard.state = .tripped := by decide

theorem witness_WritesAndClearsMoveNoPin : ∃ c, Instr.guardClear noCall = .guardClear c := ⟨_, rfl⟩

theorem witness_GuardPinLevelsTripAndEndLine : normal.inReset = false ∧ lineActive normal = false ∧
    lineActive { normal with pins := { normal.pins with guardHigh := false } } = true := by decide

theorem witness_PolarityAndWindowWritesKeepTheirConditions : (1 : Word).toNat ≤ 1 ∧ 1 < (2 : Word).toNat ∧
    (threeInFlight.ret.inFlight.length ≤ (3 : Word).toNat ∧ (2 : Word).toNat < threeInFlight.ret.inFlight.length) ∧
    (0 : Word).toNat = 0 ∧ 8 < (9 : Word).toNat := by decide

theorem witness_executes_threeInFlight : Executes .single 0 threeInFlight := ⟨by decide, by decide⟩

theorem witness_GuardTripAndGuardClearAnswerByGuardState : normal.guard.state = .normal ∧
    locked.guard.state = .tripped ∧ causesPresent locked = 0 ∧
    causesPresent { locked with pins := { locked.pins with guardHigh := false } } = 4 := by decide

theorem witness_executes_active_pin : Executes .single 0 { locked with pins := { locked.pins with guardHigh := false } } :=
  ⟨by decide, by decide⟩

theorem witness_GuardLaw : GuardLaw normal ∧ (after (.guardTrip noCall) normal).guard.state = .tripped :=
  ⟨⟨by decide, by decide, by decide⟩, by decide⟩

theorem witness_GuardLeavesTrippedOnlyByAClear : WellFormed (.guardClear noCall) = true ∧
    locked.guard.state = .tripped ∧ (after (.guardClear noCall) locked).guard.state = .normal := by decide

theorem witness_EventIsAdmittedBelowFourteenElseLost :
    (withRet (fun r => { r with events := List.replicate 13 (.event anEvent) }) locked).ret.events.length < 14 ∧
      14 ≤ (withRet (fun r => { r with events := List.replicate 14 (.event anEvent) }) locked).ret.events.length := by decide

theorem witness_RecordSentNumbersAndSendsTheHead :
    offeredSlot (offered { returnReset with replies := [aReply] }) = some (0, slotOf 0 0, .any) ∧
      (offered returnReset).framer.cycle = some (cycle 10) ∧ arrivedHeld (slotOf 0 0) = false ∧
      (offered { returnReset with replies := [aReply] }).ret.resendAt = none ∧
      (offered { returnReset with inFlight := [sent 0 1 0, sent 1 1 0, sent 2 1 0] }).ret.inFlight.length <
        (offered returnReset).params.returnWindow.toNat ∧
      (offered { returnReset with events := [.overflow], lost := 1, firstLoss := some 5 }).ret.firstLoss = some 5 := by
  decide

theorem witness_RecordSent_class_admits_none :
    let r := fun replies events => { returnReset with replies := replies, events := events }
    offeredSlot (offeredAs .reply (r [] [.event anEvent])) = some (0, slotOf 0 0, .reply) ∧
      offeredSlot (offeredAs .event (r [aReply] [])) = some (0, slotOf 0 0, .event) ∧
      (offeredAs .reply (r [] [.event anEvent])).ret.inFlight.length < (offered returnReset).params.returnWindow.toNat ∧
      (offeredAs .event (r [aReply] [])).ret.resendAt = none := by decide

theorem witness_RecordResentMovesThePositionOn :
    offeredSlot (offered { threeInFlight.ret with resendAt := some 2 }) = some (0, slotOf 0 0, .any) ∧
      (offered { threeInFlight.ret with resendAt := some 2 }).ret.resendAt = some 2 ∧
      (offered threeInFlight.ret).ret.inFlight[2]? = some (sent 0 2 0) := by decide

theorem witness_RetryExpiryResendsOrAbandons : atMarker threeInFlight = true ∧ threeInFlight.ret.resendAt = none ∧
    threeInFlight.ret.inFlight = [sent 254 1 0, sent 255 1 0, sent 0 2 0] ∧
    threeInFlight.ret.inFlight.getLast? = some (sent 0 2 0) ∧ ((33 : Word) - 1).toNat = 32 := by decide

theorem witness_AcknowledgeRemovesTheNamedAndOlderEntries : atCompletion threeInFlight = true ∧
    threeInFlight.ret.inFlight = [sent 254 1 0] ++ sent 255 1 0 :: [sent 0 2 0] ∧
    (∀ o ∈ [sent 254 1 0], o.seq ≠ (sent 255 1 0).seq) ∧ (255 : Word) = (255 : Byte).setWidth 16 ∧
    (255 : Word).toNat ≤ 255 ∧ 255 < (256 : Word).toNat ∧
    (∀ e ∈ threeInFlight.ret.inFlight, (1 : Word) ≠ e.seq.setWidth 16) := by decide

theorem witness_InFlightLaw : InFlightLaw threeInFlight :=
  ⟨by decide, by decide, by decide, by decide, fun p h => nomatch h⟩

theorem witness_QueueLaw : QueueLaw (withRet (fun r => { r with
    events := [.event anEvent, .overflow], lost := 1, firstLoss := some 5 }) locked) :=
  ⟨by decide, by decide, by decide, by decide, by decide⟩

theorem witness_EchoUnknownAndForbiddenCommands : (callWith 65535 0 0 0).a3 = 0 ∧ (callWith 0 0 0 1).a3 ≠ 0 ∧
    WellFormed (.unknownCommand 0xFF noCall) = true ∧ commandRecord (.readStatus groupCall) = some (0x09, groupCall) ∧
    groupCall.dest ≠ .single ∧ (0x09 : Byte) ∉ groupCodes ∧ atCompletion locked = true := by decide

theorem witness_DuplicatesAndFullReplyQueueStopACommand :
    (let s : State := { locked with agent := ⟨1, 1, some aReply, 1⟩ }
     atCompletion s = true ∧ s.agent.stored = some aReply ∧ (1 : Byte) = s.agent.stationTag ∧
       s.ret.replies.length < 8 ∧ groupCall.tag = s.agent.groupTag ∧ (0x07 : Byte) ∈ groupCodes) ∧
    8 ≤ (withRet (fun r => { r with replies := List.replicate 8 aReply }) locked).ret.replies.length ∧
    (withRet (fun r => { r with replies := List.replicate 7 aReply }) locked).ret.replies.length < 8 := by decide

theorem witness_ReadParamReturnsTheTablesValue : tableValue locked 8 = some 0 ∧ tableValue locked 62 = some 1 ∧
    tableValue locked 63 = none ∧ tableValue locked 9 = none ∧ tableValue locked 0 = none := by decide

theorem witness_WriteParamStoresWithinItsRange : plainRange 4 = some (4, 255) ∧ tableValue locked 4 = some 32 ∧
    (3 : Word).toNat < 4 ∧ 255 < (256 : Word).toNat ∧ (60 ≤ (60 : Word).toNat ∧ (62 : Word).toNat ≤ 62) ∧
    tableValue locked 60 = some 1 ∧ tableValue locked 41 = none ∧ WellFormed (.writeParam (callWith 4 255 0 0)) = true := by
  decide

theorem witness_ReadCounters_index_6 : ([1, 2, 3, 4, 5, 6, 7, 0, 0] : List Word)[6 + 2]? = some 0 ∧ 6 < (7 : Word).toNat := by
  decide

theorem witness_ClearingCommandsClearWhatTheyName : (16383 : Word).toNat < 16384 ∧ 16384 ≤ (16384 : Word).toNat ∧
    (127 : Word).toNat ≤ 127 ∧ 127 < (128 : Word).toNat := by decide

theorem witness_ResetStation_repeated : ({ noCall with tag := 1 } : Call).tag ≠ 0 ∧
    (after (.resetStation { noCall with tag := 1 }) locked).agent.stationTag = 1 := by decide

theorem witness_TagLaw : TagLaw { locked with agent := ⟨1, 1, some aReply, 0⟩ } :=
  ⟨fun h => absurd h (by decide), fun _ => ⟨aReply, rfl, rfl⟩⟩

theorem witness_SpareFlags_and_line : SpareFlagsLaw { locked with flags := 0x3FFF } ∧ LineLaw locked :=
  ⟨show (0x3FFF : Word).toNat < 16384 by decide, rfl⟩

theorem witness_ParamLaw : ParamLaw locked :=
  ⟨by decide, by decide, by decide, by decide, by decide, by decide, by decide, by decide, by decide, by decide⟩

theorem witness_ConfigLaw : ConfigLaw locked := ⟨fun _ => by decide, fun _ => by decide⟩

theorem witness_FramerLaw : FramerLaw (coasting 3) where
  coastLimit := by decide
  coasting := fun _ => by decide
  noFailure := fun h => absurd rfl h
  holds := fun _ => by decide
  noWindow := fun h => absurd h (by decide)
  hunting := fun h => absurd h (by decide)
  confirming := fun h => absurd h (by decide)
  candidate := by decide
  slotCount := by decide
  goodCycle := fun _ h => nomatch h
  candidateCycle := fun _ h => nomatch h
  oneAtATime := fun h => absurd rfl h
  judgedInWindow := fun _ h => nomatch h
  judgedSuccessor := fun _ h => nomatch h

end Sys2Proof.Tests
end

section
/-! PROOFS. The entry commands of the slot plan (chapter 3): the codes of R44, WRITE-ENTRY (R45, R57) and READ-ENTRY
(R47, R57). -/

namespace Sys2Proof.Machine

open Sys2Proof.Safety

/-! ## How the agent ends a command (R155, R159) -/

/-- A command that no group may carry is refused for its destination (R155). -/
theorem takeCommand_destinationRefused {code : Byte} {c : Call} {s : State} (hd : c.dest ≠ .single)
    (hgroup : groupAllowed (kindOf code) = false) : takeCommand code c s = refusedForDestination s := by
  have hjudge : judgeCommand code c s = .destinationRefused := by
    unfold judgeCommand
    cases h : c.dest with
    | single => exact absurd h hd
    | group | all => simp only [hgroup, Bool.not_false, if_true]
  rw [takeCommand, hjudge]
  simp only [countRefused_eq]
  rfl

theorem ending_single_lastReply (tag code : Byte) (r : Result) (d0 d1 d2 : Word) (s : State) :
    (ending .single tag code r d0 d1 d2 s).ret.replies.getLast? = some ⟨tag, code, r, d0, d1, d2⟩ :=
  List.getLast?_concat

@[simp] theorem ending_plan (dest : DestType) (tag code : Byte) (r : Result) (d0 d1 d2 : Word) (s : State) :
    (ending dest tag code r d0 d1 d2 s).plan = s.plan := by
  cases dest <;> rfl

/-! ## The codes of an entry (R44) -/

theorem payloadIndex_eq_some_iff (w : Word) (i : Fin 6) : payloadIndex w = some i ↔ w = BitVec.ofNat 16 (i.val + 1) := by
  have hi := i.isLt
  have hw := w.isLt
  have hmod : (i.val + 1) % 65536 = i.val + 1 := Nat.mod_eq_of_lt (by omega)
  rw [← BitVec.toNat_inj, BitVec.toNat_ofNat, hmod]
  unfold payloadIndex
  split
  · rw [Option.some.injEq, Fin.ext_iff]
    show w.toNat - 1 = i.val ↔ w.toNat = i.val + 1
    omega
  · simp only [reduceCtorEq, false_iff]
    omega

theorem releaseOption_eq_some_iff (w : Word) (r : Bool) : releaseOption w = some r ↔ w = releaseCode r := by
  constructor
  · intro h
    unfold releaseOption at h
    split_ifs at h <;> cases h <;> assumption
  · rintro rfl
    cases r <;> rfl

theorem sourceOption_eq_some_iff (w : Word) (src : Source) : sourceOption w = some src ↔ w = sourceCode src := by
  constructor
  · intro h
    unfold sourceOption at h
    split_ifs at h <;> cases h <;> assumption
  · rintro rfl
    cases src <;> rfl

theorem classOption_eq_some_iff (w : Word) (cls : OfferClass) : classOption w = some cls ↔ w = classCode cls := by
  constructor
  · intro h
    unfold classOption at h
    split_ifs at h <;> cases h <;> assumption
  · rintro rfl
    cases cls <;> rfl

/-- Arguments name an entry exactly when they are the entry's codes. -/
theorem entryOfArgs_eq_some_iff (a1 a2 a3 : Word) (e : Entry) :
    entryOfArgs a1 a2 a3 = some e ↔ a1 = actionCode e ∧ a2 = wordCode e ∧ a3 = optionCode e := by
  unfold entryOfArgs
  cases e with
  | pass => simp only [actionCode, wordCode, optionCode]; grind
  | take w r =>
    simp only [actionCode, wordCode, optionCode, ← payloadIndex_eq_some_iff, ← releaseOption_eq_some_iff]; grind
  | fill w src =>
    simp only [actionCode, wordCode, optionCode, ← payloadIndex_eq_some_iff, ← sourceOption_eq_some_iff]; grind
  | offer cls => simp only [actionCode, wordCode, optionCode, ← classOption_eq_some_iff]; grind
  | manage r => simp only [actionCode, wordCode, optionCode, ← releaseOption_eq_some_iff]; grind

/-! ## The banks (R40) -/

theorem standby_of_active_zero {p : Plan} (h : p.active = .zero) : standby p = .one := by
  rw [standby, h]; rfl

theorem standby_of_active_one {p : Plan} (h : p.active = .one) : standby p = .zero := by
  rw [standby, h]; rfl

@[simp] theorem bankOf_putBank (b : Bank) (entries : Vector Entry 128) (p : Plan) :
    bankOf b (putBank b entries p) = entries := by
  cases b <;> rfl

@[simp] theorem standby_putBank (b : Bank) (entries : Vector Entry 128) (p : Plan) :
    standby (putBank b entries p) = standby p := by
  cases b <;> rfl

/-! ## WRITE-ENTRY (R45, R57) -/

theorem effectWriteEntry_done {c : Call} {s : State} {e : Entry} (ha : c.a0.toNat ≤ 127)
    (he : entryOfArgs c.a1 c.a2 c.a3 = some e) (hc : s.plan.commit = none) :
    effectWriteEntry c s =
      ⟨s.putPlan (putBank (standby s.plan) ((bankOf (standby s.plan) s.plan).setIfInBounds c.a0.toNat e) s.plan),
        .done, c.a0, c.a1, bankNumber (standby s.plan)⟩ := by
  simp only [effectWriteEntry, if_pos ha, he, hc]

theorem effectWriteEntry_pending {c : Call} {s : State} {e : Entry} {target : Word} (ha : c.a0.toNat ≤ 127)
    (he : entryOfArgs c.a1 c.a2 c.a3 = some e) (hc : s.plan.commit = some target) :
    effectWriteEntry c s = ⟨s, .pending, target, 0, 0⟩ := by
  simp only [effectWriteEntry, if_pos ha, he, hc]

theorem effectWriteEntry_range {c : Call} {s : State}
    (h : ∀ e, c.a0.toNat ≤ 127 → entryOfArgs c.a1 c.a2 c.a3 ≠ some e) : effectWriteEntry c s = refuse .range s := by
  have hnone : (if c.a0.toNat ≤ 127 then entryOfArgs c.a1 c.a2 c.a3 else none) = none := by
    split
    · exact Option.eq_none_iff_forall_ne_some.mpr fun e => h e ‹_›
    · rfl
  simp only [effectWriteEntry, hnone]

theorem exec_writeEntry {c : Call} {s : State} (hx : Executes c.dest c.tag s) {e : Effect}
    (he : effectWriteEntry c s = e) :
    exec (.writeEntry c) s = .next (ending c.dest c.tag 0x05 e.result e.d0 e.d1 e.d2 e.state) :=
  commandStep_executes hx (by decide) (isReset_other (by decide)) (fun _ => by decide) e he

/-- An entry written to the standby bank stands there at its index after the command. -/
theorem exec_writeEntry_standby {w : Call} {s t : State} {e : Entry} (hx : Executes w.dest w.tag s)
    (hc : s.plan.commit = none) (ha : w.a0.toNat ≤ 127) (he : entryOfArgs w.a1 w.a2 w.a3 = some e)
    (ht : exec (.writeEntry w) s = .next t) : (bankOf (standby t.plan) t.plan)[w.a0.toNat]? = some e := by
  rw [exec_writeEntry hx (effectWriteEntry_done ha he hc)] at ht
  cases ht
  simp only [ending_plan, State.putPlan_plan, standby_putBank, bankOf_putBank]
  exact Vector.getElem?_setIfInBounds_self_of_lt (by omega)

/-! ## READ-ENTRY (R47, R57) -/

/-- The bank read is the active one for a1 = 0 and the standby one for a1 = 1. -/
theorem effectReadEntry_done {c : Call} {s : State} {b : Bank} {e : Entry}
    (hb : c.a1 = 0 ∧ s.plan.active = b ∨ c.a1 = 1 ∧ standby s.plan = b) (h2 : c.a2 = 0) (h3 : c.a3 = 0)
    (he : (bankOf b s.plan)[c.a0.toNat]? = some e) :
    effectReadEntry c s = ⟨s, .done, actionCode e, wordCode e, optionCode e⟩ := by
  obtain ⟨h1, rfl⟩ | ⟨h1, rfl⟩ := hb
  · simp [effectReadEntry, h1, h2, h3, he]
  · simp [effectReadEntry, h1, h2, h3, he]

theorem effectReadEntry_range {c : Call} {s : State}
    (h : 127 < c.a0.toNat ∨ 1 < c.a1.toNat ∨ c.a2 ≠ 0 ∨ c.a3 ≠ 0) : effectReadEntry c s = refuse .range s := by
  unfold effectReadEntry
  split
  next hargs =>
    obtain ⟨h1, h2, h3⟩ := hargs
    have ha : 127 < c.a0.toNat := by
      simpa [h2, h3, Nat.not_lt.mpr h1] using h
    simp only [Vector.getElem?_eq_none ha]
  next => rfl

theorem exec_readEntry_single {c : Call} {s : State} (hd : c.dest = .single) (hx : Executes c.dest c.tag s) {e : Effect}
    (he : effectReadEntry c s = e) :
    exec (.readEntry c) s = .next (ending c.dest c.tag 0x04 e.result e.d0 e.d1 e.d2 e.state) :=
  commandStep_executes hx (by decide) (isReset_other (by decide)) (fun h => absurd hd h) e he

/-! ## The statements -/

/-- Settles O24, by the three outcomes of WRITE-ENTRY's effect. -/
theorem writeEntryReplacesAStandbyEntry : Obligations.WriteEntryReplacesAStandbyEntry := by
  intro c s hx admitted
  have named : ∀ e, admitted e ↔ c.a0.toNat ≤ 127 ∧ entryOfArgs c.a1 c.a2 c.a3 = some e := fun e =>
    and_congr_right' (entryOfArgs_eq_some_iff _ _ _ e).symm
  refine ⟨fun e he hc => ?_, fun e target he hc => ?_, fun hno => ?_⟩
  · obtain ⟨ha, hargs⟩ := (named e).mp he
    have hdone := exec_writeEntry hx (effectWriteEntry_done ha hargs hc)
    refine ⟨fun hact => ?_, fun hact => ?_⟩
    · rw [hdone, standby_of_active_zero hact]; rfl
    · rw [hdone, standby_of_active_one hact]; rfl
  · obtain ⟨ha, hargs⟩ := (named e).mp he
    exact exec_writeEntry hx (effectWriteEntry_pending ha hargs hc)
  · exact exec_writeEntry hx (effectWriteEntry_range fun e ha hargs => hno e ((named e).mpr ⟨ha, hargs⟩))

/-- Settles O27: the entry read is the one in the bank a1 names, and a written entry is read back by its own codes. -/
theorem readEntryReturnsTheEntrysCodes : Obligations.ReadEntryReturnsTheEntrysCodes := by
  refine ⟨fun c s hd hx => ⟨fun e h2 h3 => ⟨fun hbank he => ?bank0, fun hbank he => ?bank1⟩, fun h => ?range⟩,
    fun w r s t u _ hrd hx hc ha hsome ht hxr h0 h1 h2 h3 hu => ?readBack, fun c s hd hcomp => ?group⟩
  case bank0 =>
    have hb := hbank.imp_right (And.imp_right standby_of_active_one)
    exact exec_readEntry_single hd hx (effectReadEntry_done hb h2 h3 he)
  case bank1 =>
    have hb := hbank.imp_right (And.imp_right standby_of_active_zero)
    exact exec_readEntry_single hd hx (effectReadEntry_done hb h2 h3 he)
  case range => exact exec_readEntry_single hd hx (effectReadEntry_range h)
  case readBack =>
    obtain ⟨e, he⟩ := Option.isSome_iff_exists.mp hsome
    have hentry := exec_writeEntry_standby hx hc ha he ht
    rw [exec_readEntry_single hrd hxr (effectReadEntry_done (.inr ⟨h1, rfl⟩) h2 h3 (h0 ▸ hentry))] at hu
    cases hu
    obtain ⟨h1, h2, h3⟩ := (entryOfArgs_eq_some_iff _ _ _ e).mp he
    rw [hrd, ending_single_lastReply, h1, h2, h3]
  case group =>
    exact (commandStep_atCompletion 4 c s hcomp).trans (congrArg _ (takeCommand_destinationRefused hd (by decide)))

end Sys2Proof.Machine
end

section
/-! PROOFS. The FILL entry (R66, R67): the payload it writes, its two outcomes, and the four source words it can write
(R18). -/

namespace Sys2Proof.Machine

open Sys2Proof.Safety

/-! ## The places of bytes and words (R7, R18) -/

/-- Place i of a byte is channel or input i. In the proof the width is the sum of the parts' widths, as `++` has it. -/
theorem byteOf_getLsbD (f : Fin 8 → Bool) (i : Fin 8) : (byteOf f).getLsbD i.val = f i := by
  show BitVec.getLsbD (w := 1 + 1 + 1 + 1 + 1 + 1 + 1 + 1) (byteOf f) i.val = f i
  simp only [byteOf, BitVec.getLsbD_append]
  fin_cases i <;> simp

theorem wordOf_getLsbD_low (hi lo : Byte) (i : Fin 8) : (wordOf hi lo).getLsbD i.val = lo.getLsbD i.val := by
  rw [wordOf, BitVec.getLsbD_append, if_pos i.isLt]

theorem wordOf_getLsbD_high (hi lo : Byte) (i : Fin 8) : (wordOf hi lo).getLsbD (8 + i.val) = hi.getLsbD i.val := by
  rw [wordOf, BitVec.getLsbD_append, if_neg (by omega), Nat.add_sub_cancel_left]

/-! ## The source words (R18) -/

theorem inputsWord_low (sm : Sampler) (i : Fin 8) : (inputsWord sm).getLsbD i.val = sm.lines[i].qualified := by
  rw [inputsWord, wordOf_getLsbD_low, byteOf_getLsbD]

theorem inputsWord_high (sm : Sampler) (i : Fin 8) : (inputsWord sm).getLsbD (8 + i.val) = sm.lines[i].changed := by
  rw [inputsWord, wordOf_getLsbD_high, byteOf_getLsbD]

theorem outputsWord_low (cs : Vector Channel 8) (i : Fin 8) :
    (outputsWord cs).getLsbD i.val = logicalLevel cs[i] := by
  rw [outputsWord, wordOf_getLsbD_low, byteOf_getLsbD]

theorem outputsWord_high (cs : Vector Channel 8) (i : Fin 8) : (outputsWord cs).getLsbD (8 + i.val) = cs[i].held := by
  rw [outputsWord, wordOf_getLsbD_high, byteOf_getLsbD]

/-- The level of a channel is its applied level under PATTERN and its configured level under FIXED (R94). -/
theorem logicalLevel_eq (c : Channel) :
    logicalLevel c = if c.config.source = .pattern then c.applied else c.config.level := by
  unfold logicalLevel
  cases c.config.source <;> rfl

theorem toNat_append_eq_add {v w : Nat} (x : BitVec v) (y : BitVec w) : (x ++ y).toNat = x.toNat * 2 ^ w + y.toNat := by
  rw [BitVec.toNat_append, ← Nat.shiftLeft_add_eq_or_of_lt y.isLt, Nat.shiftLeft_eq]

/-- The three queue lengths side by side, while each fits its field. -/
theorem queuesWord_toNat {r : ReturnPath} (hr : r.replies.length < 16) (he : r.events.length < 32)
    (hf : r.inFlight.length < 16) :
    (queuesWord r).toNat = 512 * r.inFlight.length + 16 * r.events.length + r.replies.length := by
  simp only [queuesWord, toNat_append_eq_add, BitVec.toNat_ofNat]
  omega

/-! ## The action (R66, R67) -/

/-- One payload word replaced, the others as they arrived (R66). -/
theorem payload_set_eq_ofFn (p : Vector Word 6) (word : Fin 6) (w : Word) :
    p.set word.val w word.isLt = Vector.ofFn fun i => if i = word then w else p[i] := by
  refine Vector.ext fun i hi => ?_
  rw [Vector.getElem_set, Vector.getElem_ofFn]
  exact if_congr (by rw [Fin.ext_iff, eq_comm]) rfl rfl

/-- What a collision does: COLLISION is set and COLLISIONS grows by 1 (R67). -/
theorem countCollision_setFlag (s : State) : countCollision (setFlag .collision s) =
    { s with
      flags := s.flags ||| 0x0010
      counters := { s.counters with collisions := bump s.counters.collisions 1 } } :=
  countCollision_eq _

theorem fillAction_held {word : Fin 6} {src : Source} {n : Nat} {sl : Slot} {s : State} (h : arrivedHeld sl = true) :
    fillAction word src n sl s = countCollision (setFlag .collision s) := by
  rw [fillAction, slotHeld_eq, if_pos h]

theorem fillAction_vacant {word : Fin 6} {src : Source} {n : Nat} {sl : Slot} {s : State} {c : Cycle}
    (h : arrivedHeld sl = false) (hn : n < 64) (hc : s.framer.cycle = some c) :
    fillAction word src n sl s = leaving c sl (ownHeader n s)
      (Vector.ofFn fun i => if i = word then sourceWord src s else sl.payload[i]) s := by
  rw [fillAction, slotHeld_eq, if_neg (by simp [h]), leaveOwned, slotHeader_own n hn, leaveAs_eq c _ _ _ _ hc,
    payload_set_eq_ofFn]

/-- An undamaged slot under a FILL entry is FILL's action on the slot that has just passed. -/
theorem exec_fillSlot {c : Cycle} {n : Nat} {v : Word} {sl : Slot} {word : Fin 6} {src : Source} {inputs : Byte}
    {s : State} (h : SlotPasses c n v sl (.fill word src) s) :
    exec (.itemReceived (.word v) inputs []) s =
      .next (fillAction word src n sl (atSlotEnd c n (.word v) inputs s)) :=
  execItemReceived_slotPasses h

/-! ## The statement -/

/-- Settles O30: FILL's action by the slot's occupancy, and each source word by its fields. -/
theorem fillWritesItsSourceWordOrCollides : Obligations.FillWritesItsSourceWordOrCollides := by
  refine ⟨fun c n v sl word src inputs s h => ⟨fun hvacant => ?vacant, fun hheld => ?held⟩,
    fun s => ⟨fun i => ?inputs, fun i => ?outputs, rfl, fun hr he hf => ?queues⟩⟩
  case vacant =>
    have hcycle : (atSlotEnd c n (.word v) inputs s).framer.cycle = some (cycleAt c n v) := rfl
    rw [exec_fillSlot h, fillAction_vacant hvacant (undamaged_lt h.undamaged) hcycle]
    rfl
  case held =>
    rw [exec_fillSlot h, fillAction_held hheld, countCollision_setFlag]
    rfl
  case inputs => exact ⟨inputsWord_low s.sampler i, inputsWord_high s.sampler i⟩
  case outputs => exact ⟨outputsWord_high s.channels i, (outputsWord_low s.channels i).trans (logicalLevel_eq _)⟩
  case queues => exact queuesWord_toNat (by omega) (by omega) (by omega)

end Sys2Proof.Machine
end

section
/-! PROOFS. What an output pin drives (chapter 5): the rows of R92 and the guarding law. -/

namespace Sys2Proof.Machine

open Sys2Proof.Safety

/-! ## The rows of R92 -/

/-- The level a guard mode names (R92, row 3). -/
def guardDrive : GuardMode → Drive
  | .none | .float => .floating
  | .low => .low
  | .high => .high

theorem pinDrive_of_inReset {s : State} {i : Fin 8} (hr : s.inReset = true) : pinDrive s i = .floating :=
  if_pos hr

section Released
variable {s : State} {i : Fin 8} (hr : s.inReset = false)
include hr

theorem pinDrive_of_disabled (he : s.channels[i].config.enable = false) : pinDrive s i = .floating := by
  simp [pinDrive, -Fin.getElem_fin, hr, he]

/-- Row 3 drives the guard mode's level, which invert does not turn over. -/
theorem pinDrive_of_held {m : GuardMode} (he : s.channels[i].config.enable = true)
    (hh : s.channels[i].held = true) (hm : s.channels[i].guardMode = m) (hmode : m ≠ .none) :
    pinDrive s i = guardDrive m := by
  cases m with
  | none => exact absurd rfl hmode
  | float | low | high => simp [pinDrive, -Fin.getElem_fin, guardDrive, hr, he, hh, hm]

theorem pinDrive_of_not_held (he : s.channels[i].config.enable = true)
    (hfree : s.channels[i].held = false ∨ s.channels[i].guardMode = .none) :
    pinDrive s i = driveLevel (logicalLevel s.channels[i] != s.channels[i].config.invert) := by
  obtain hh | hm := hfree
  · simp [pinDrive, -Fin.getElem_fin, hr, he, hh]
  · simp [pinDrive, -Fin.getElem_fin, hr, he, hm]

/-- The guarding law of R92: a guard mode is driven throughout TRIPPED, because every channel that has one is held. -/
theorem pinDrive_of_tripped {m : GuardMode} (hlaw : GuardLaw s) (ht : s.guard.state = .tripped)
    (he : s.channels[i].config.enable = true) (hm : s.channels[i].guardMode = m) (hmode : m ≠ .none) :
    pinDrive s i = guardDrive m :=
  have hh : s.channels[i].held = true := hlaw.trippedHolds ht i (hm ▸ hmode)
  pinDrive_of_held hr he hh hm hmode

end Released

/-! ## The statement -/

/-- Settles O35, by the four rows of R92 and the guarding law. -/
theorem pinDriveFollowsItsTable : Obligations.PinDriveFollowsItsTable := by
  refine ⟨fun s i => ⟨pinDrive_of_inReset, pinDrive_of_disabled, ?float, ?low, ?high, ?level⟩,
    fun s i hlaw hr ht he => ⟨?trippedFloat, ?trippedLow, ?trippedHigh⟩⟩
  case float | low | high => exact fun hr he hh hm => pinDrive_of_held hr he hh hm (by decide)
  case level =>
    intro hr he hfree
    rw [pinDrive_of_not_held hr he hfree, logicalLevel_eq]
    rfl
  case trippedFloat | trippedLow | trippedHigh => exact fun hm => pinDrive_of_tripped hr hlaw ht he hm (by decide)

end Sys2Proof.Machine
end

section
/-! PROOFS. Writes of a parameter (R164) by their outcomes, and the two parameters with a condition of their own that the
guard and the return path give them: the GUARD pin polarity P6 (R104) and the return window P3 (R146). -/

namespace Sys2Proof.Machine

open Sys2Proof.Safety

/-! ## The outcomes of WRITE-PARAM (R164) -/

theorem effectWriteParam_arguments {c : Call} {s : State} (h : c.a2 ≠ 0 ∨ c.a3 ≠ 0) :
    effectWriteParam c s = ⟨s, .range, c.a0, 0, 0⟩ := by
  rw [effectWriteParam, if_neg (by tauto)]

section Writable
variable {c : Call} {s : State} {p : Param} (h2 : c.a2 = 0) (h3 : c.a3 = 0) (hp : paramOf c.a0 = some p)
  (hw : paramReadOnly p = false)
include h2 h3 hp hw

theorem effectWriteParam_range (hv : paramAdmits p c.a1 = false) :
    effectWriteParam c s = ⟨s, .range, c.a0, paramValue p s, paramValue p s⟩ := by
  simp [effectWriteParam, h2, h3, hp, hw, hv]

theorem effectWriteParam_refused {r : Result} (hv : paramAdmits p c.a1 = true) (hr : writeRefusal p c.a1 s = some r) :
    effectWriteParam c s = ⟨s, r, c.a0, paramValue p s, paramValue p s⟩ := by
  simp [effectWriteParam, h2, h3, hp, hw, hv, hr]

theorem effectWriteParam_done (hv : paramAdmits p c.a1 = true) (hr : writeRefusal p c.a1 s = none) :
    effectWriteParam c s = ⟨storeParam p c.a1 s, .done, c.a0, c.a1, paramValue p s⟩ := by
  simp [effectWriteParam, h2, h3, hp, hw, hv, hr]

end Writable

/-- A WRITE-PARAM row with its parameter number fixed ends with WRITE-PARAM's effect for that number. -/
theorem commandStep_writeCall {number : Nat} {w : WriteCall} {s : State} (hx : Executes w.dest w.tag s) {e : Effect}
    (he : effectWriteParam (writeCall number w) s = e) :
    commandStep 0x03 (writeCall number w) s = .next (ending w.dest w.tag 0x03 e.result e.d0 e.d1 e.d2 e.state) :=
  commandStep_executes (c := writeCall number w) hx (by decide) (isReset_other (by decide)) (fun _ => by decide) e he

/-! ## The GUARD pin polarity (R104) -/

/-- The pin is judged afresh under the new polarity: one that was not active and now is makes a LINE trip. -/
theorem storePolarity_eq (v : Word) (s : State) :
    storePolarity v s =
      let t : State := { s with params := { s.params with guardPolarity := v } }
      if lineActive s = false ∧ lineActive t = true then tripped .line t else t := by
  simp only [storePolarity, linePresent_eq, trip_eq, Bool.and_eq_true, Bool.not_eq_true']
  rfl

/-! ## The return window (R146) -/

theorem writeRefusal_returnWindow_busy {v : Word} {s : State} (h : v.toNat < s.ret.inFlight.length) :
    writeRefusal .returnWindow v s = some .busy :=
  if_pos h

theorem writeRefusal_returnWindow_none {v : Word} {s : State} (h : s.ret.inFlight.length ≤ v.toNat) :
    writeRefusal .returnWindow v s = none :=
  if_neg (Nat.not_lt.mpr h)

theorem paramAdmits_returnWindow_false {v : Word} (h : v.toNat = 0 ∨ 8 < v.toNat) :
    paramAdmits .returnWindow v = false :=
  decide_eq_false (by omega)

/-! ## The statement -/

/-- Settles O39: each clause is one outcome of WRITE-PARAM, at number 6 and at number 3. -/
theorem polarityAndWindowWritesKeepTheirConditions : Obligations.PolarityAndWindowWritesKeepTheirConditions := by
  refine ⟨fun w s hx => ⟨fun h2 h3 hv => ?polarityDone, fun h2 h3 hv => ?polarityRange, fun h => ?polarityArguments⟩,
    fun w s hx => ⟨fun h2 h3 hlow hhigh hfits => ?windowDone, fun h2 h3 hlow hhigh hbelow => ?windowBusy,
      fun h2 h3 hv => ?windowRange, fun h => ?windowArguments⟩⟩
  case polarityDone =>
    rw [← storePolarity_eq]
    exact commandStep_writeCall hx
      (effectWriteParam_done (p := .guardPolarity) h2 h3 rfl rfl (decide_eq_true hv) rfl)
  case polarityRange =>
    exact commandStep_writeCall hx
      (effectWriteParam_range (p := .guardPolarity) h2 h3 rfl rfl (decide_eq_false (Nat.not_le.mpr hv)))
  case windowDone =>
    exact commandStep_writeCall hx (effectWriteParam_done (p := .returnWindow) h2 h3 rfl rfl
      (decide_eq_true ⟨hlow, hhigh⟩) (writeRefusal_returnWindow_none hfits))
  case windowBusy =>
    exact commandStep_writeCall hx (effectWriteParam_refused (p := .returnWindow) h2 h3 rfl rfl
      (decide_eq_true ⟨hlow, hhigh⟩) (writeRefusal_returnWindow_busy hbelow))
  case windowRange =>
    exact commandStep_writeCall hx
      (effectWriteParam_range (p := .returnWindow) h2 h3 rfl rfl (paramAdmits_returnWindow_false hv))
  case polarityArguments | windowArguments => exact commandStep_writeCall hx (effectWriteParam_arguments h)

end Sys2Proof.Machine
end

section
/-! PROOFS. GUARD-TRIP (R106) and GUARD-CLEAR (R109, R110) by the guard state, with their reply data (R113). -/

namespace Sys2Proof.Machine

open Sys2Proof.Safety

/-! ## The guard after a trip (R99, R100) -/

@[simp] theorem alerted_guard (k : AlertKind) (cycle d0 d1 : Word) (s : State) :
    (alerted k cycle d0 d1 s).guard = s.guard := by
  unfold alerted
  split <;> rfl

/-- From NORMAL the trip is the guard's new trip record (R99). -/
theorem tripped_guard_of_normal {s : State} (c : Cause) (h : s.guard.state = .normal) :
    (tripped c s).guard = ⟨.tripped, causeSet c, lastAccepted s, c⟩ := by
  rw [tripped, if_pos h, alerted_guard]

/-- While TRIPPED a trip only adds its cause (R100). -/
theorem tripped_guard_of_tripped {s : State} (c : Cause) (h : s.guard.state = .tripped) :
    (tripped c s).guard = { s.guard with causes := s.guard.causes ||| causeSet c } := by
  rw [tripped, if_neg (by simp [h])]

/-! ## GUARD-TRIP (R106, R113) -/

section Trip
variable {c : Call} {s : State}

theorem effectGuardTrip_normal (ha : NoArguments c) (h : s.guard.state = .normal) :
    effectGuardTrip c s = ⟨tripped .command s, .done, 16, lastAccepted s, 1⟩ := by
  simp only [effectGuardTrip, (noArguments_iff c).mpr ha, if_true, trip_eq, tripped_guard_of_normal .command h, h]
  rfl

theorem effectGuardTrip_tripped (ha : NoArguments c) (h : s.guard.state = .tripped) :
    effectGuardTrip c s = ⟨tripped .command s, .done, (s.guard.causes ||| causeSet .command).setWidth 16,
      s.guard.tripCycle, 0⟩ := by
  simp only [effectGuardTrip, (noArguments_iff c).mpr ha, if_true, trip_eq, tripped_guard_of_tripped .command h, h]
  rfl

theorem effectGuardTrip_range (ha : ¬ NoArguments c) : effectGuardTrip c s = refuse .range s := by
  simp [effectGuardTrip, (noArguments_false_iff c).mpr ha]

theorem exec_guardTrip (hx : Executes c.dest c.tag s) {e : Effect} (he : effectGuardTrip c s = e) :
    exec (.guardTrip c) s = .next (ending c.dest c.tag 0x0E e.result e.d0 e.d1 e.d2 e.state) :=
  commandStep_executes hx (by decide) (isReset_other (by decide)) (fun _ => by decide) e he

end Trip

/-! ## GUARD-CLEAR (R109, R110, R113) -/

/-- An accepted clear empties the cause set, keeps the trip record and raises GUARD-CLEARED (R110). -/
theorem clearGuard_eq (s : State) : clearGuard s =
    alerted .guardCleared (lastAccepted s) 0 0 { s with guard := { s.guard with state := .normal, causes := 0 } } := by
  rw [clearGuard, queueAlert_eq, lastNumber_eq]
  rfl

theorem causeWord_causeAlone (k : Cause) : causeWord (causeAlone k) = causeNumber k := by
  rw [causeAlone_eq, causeWord_causeSet]

section Clear
variable {c : Call} {s : State}

theorem effectGuardClear_done (ha : NoArguments c) (h : s.guard.state = .tripped) (hp : causesPresent s = 0) :
    effectGuardClear c s = ⟨clearGuard s, .done, s.guard.causes.setWidth 16, s.guard.tripCycle,
      causeNumber s.guard.tripCause⟩ := by
  simp only [effectGuardClear, (noArguments_iff c).mpr ha, if_true, h, (presentCauses_eq_zero s).mpr hp,
    causeWord_causeAlone]
  rfl

theorem effectGuardClear_causePresent (ha : NoArguments c) (h : s.guard.state = .tripped) (hp : causesPresent s ≠ 0) :
    effectGuardClear c s = ⟨s, .causePresent, causesPresent s, s.guard.causes.setWidth 16, s.guard.tripCycle⟩ := by
  simp only [effectGuardClear, (noArguments_iff c).mpr ha, if_true, h, if_neg (mt (presentCauses_eq_zero s).mp hp),
    presentCauses_word]
  rfl

theorem effectGuardClear_notTripped (ha : NoArguments c) (h : s.guard.state = .normal) :
    effectGuardClear c s = ⟨s, .notTripped, 0, s.guard.tripCycle, causeNumber s.guard.tripCause⟩ := by
  simp only [effectGuardClear, (noArguments_iff c).mpr ha, if_true, h, causeWord_causeAlone]

theorem effectGuardClear_range (ha : ¬ NoArguments c) : effectGuardClear c s = refuse .range s := by
  simp [effectGuardClear, (noArguments_false_iff c).mpr ha]

theorem exec_guardClear (hx : Executes c.dest c.tag s) {e : Effect} (he : effectGuardClear c s = e) :
    exec (.guardClear c) s = .next (ending c.dest c.tag 0x0F e.result e.d0 e.d1 e.d2 e.state) :=
  commandStep_executes hx (by decide) (isReset_other (by decide)) (fun _ => by decide) e he

end Clear

/-! ## The statement -/

/-- Settles O40, by the outcomes of the two commands' effects. -/
theorem guardTripAndGuardClearAnswerByGuardState : Obligations.GuardTripAndGuardClearAnswerByGuardState := by
  refine ⟨fun c s hx => ⟨fun ha h => ?tripNormal, fun ha h => ?tripTripped, fun ha => ?tripRange⟩,
    fun c s hx => ⟨fun ha h hp => ?clearDone, fun ha h hp => ?clearPresent, fun ha h => ?clearNormal,
      fun ha => ?clearRange⟩⟩
  case tripNormal => exact exec_guardTrip hx (effectGuardTrip_normal ha h)
  case tripTripped => exact exec_guardTrip hx (effectGuardTrip_tripped ha h)
  case tripRange => exact exec_guardTrip hx (effectGuardTrip_range ha)
  case clearDone =>
    rw [← clearGuard_eq]
    exact exec_guardClear hx (effectGuardClear_done ha h hp)
  case clearPresent => exact exec_guardClear hx (effectGuardClear_causePresent ha h hp)
  case clearNormal => exact exec_guardClear hx (effectGuardClear_notTripped ha h)
  case clearRange => exact exec_guardClear hx (effectGuardClear_range ha)

end Sys2Proof.Machine
end

section
/-! PROOFS. What a served OFFER slot sends (chapter 8): the record words of R15, how the slot leaves (R68), a first
sending (R134 step 2, R135) and a resending (R134 step 1, R136, R139). -/

namespace Sys2Proof.Machine

open Sys2Proof.Safety

/-! ## Record words (R7, R15, R16) -/

theorem wordOf_zero (b : Byte) : wordOf 0 b = b.setWidth 16 := by
  apply BitVec.eq_of_toNat_eq
  rw [wordOf, toNat_append_eq_add, BitVec.toNat_setWidth_of_le (by decide)]
  simp

/-- The fields of payload word 1 side by side: RESENT at place 11, FIRST at place 10, the kind at places 9 and 8, the
sequence number below. -/
theorem recordWord_toNat (resent first : Bool) (kind : RecordKind) (seq : Byte) :
    (recordWord resent first kind seq).toNat =
      2048 * resent.toNat + 1024 * first.toNat + 256 * (recordCode kind).toNat + seq.toNat := by
  simp only [recordWord, toNat_append_eq_add, BitVec.toNat_ofBool]
  simp
  omega

theorem recordWord_eq (resent first : Bool) (kind : RecordKind) (seq : Byte) :
    recordWord resent first kind seq = BitVec.ofNat 16 ((if resent = true then 2048 else 0) +
      (if first = true then 1024 else 0) + 256 * (recordCode kind).toNat + seq.toNat) := by
  have hval : (recordWord resent first kind seq).toNat = (if resent = true then 2048 else 0) +
      (if first = true then 1024 else 0) + 256 * (recordCode kind).toNat + seq.toNat := by
    rw [recordWord_toNat]
    cases resent <;> cases first <;> rfl
  rw [← hval, BitVec.ofNat_toNat, BitVec.setWidth_eq]

/-- A first sending carries RESENT 0 (R135). -/
theorem recordPayload_first (e : Sent) : recordPayload false e =
    #v[BitVec.ofNat 16 ((if e.first = true then 1024 else 0) + 256 * (recordCode e.kind).toNat + e.seq.toNat),
      e.content[0], e.content[1], e.content[2], e.content[3], e.content[4]] := by
  simp [recordPayload, recordWord_eq]

/-- A resending carries RESENT 1 (R136). -/
theorem recordPayload_resent (e : Sent) : recordPayload true e =
    #v[BitVec.ofNat 16 (2048 + (if e.first = true then 1024 else 0) + 256 * (recordCode e.kind).toNat + e.seq.toNat),
      e.content[0], e.content[1], e.content[2], e.content[3], e.content[4]] := by
  simp [recordPayload, recordWord_eq]

/-! ## The offered slot (R68, R69) -/

theorem undamaged_of_passingSlot {n : Nat} {sl : Slot} {s : State} (h : passingSlot n s = some sl) : Undamaged n sl := by
  unfold passingSlot at h
  split at h
  next => cases h
  next =>
    split at h
    next => cases h
    next hd =>
      cases h
      exact (slotDamaged_iff n sl).mp (by simpa using hd)

theorem offeredSlot_lt {n : Nat} {sl : Slot} {cls : OfferClass} {s : State} (h : offeredSlot s = some (n, sl, cls)) :
    n < 64 := by
  unfold offeredSlot at h
  split at h
  next => cases h
  next c _ =>
    split at h
    next =>
      split at h
      next arrived _ hpass _ =>
        cases h
        exact undamaged_lt (undamaged_of_passingSlot hpass)
      next => cases h
    next => cases h

section Offer
variable {c : Cycle} {n : Nat} {sl : Slot} {cls : OfferClass} {s : State}

theorem exec_recordSent (ho : offeredSlot s = some (n, sl, cls)) (hr : s.ret.resendAt = none) :
    exec .recordSent s = .next (offerAction cls n sl s) := by
  show execRecordSent s = _
  simp only [execRecordSent, ho, hr, Option.isNone_none, if_true]

theorem exec_recordResent (ho : offeredSlot s = some (n, sl, cls)) {p : Nat} (hr : s.ret.resendAt = some p) :
    exec .recordResent s = .next (offerAction cls n sl s) := by
  show execRecordResent s = _
  simp only [execRecordResent, ho, hr, Option.isSome_some, if_true]

/-- The return path hands over nothing: the slot leaves as it arrived (R134 step 3). -/
theorem offerAction_nothing (hv : arrivedHeld sl = false) (hserve : serveOffer cls s = (s, none)) :
    offerAction cls n sl s = s := by
  rw [offerAction, slotHeld_eq, if_neg (by simp [hv]), hserve]

/-- The return path hands over six words: the slot leaves HELD by this station with them (R68). -/
theorem offerAction_words {t : State} {words : Vector Word 6} (hv : arrivedHeld sl = false) (hn : n < 64)
    (hserve : serveOffer cls s = (t, some words)) (hcycle : t.framer.cycle = some c) (hagent : t.agent = s.agent) :
    offerAction cls n sl s =
      leaving c sl (ownHeader n s) words { t with engine := { t.engine with handover := some words } } := by
  have hown : slotHeader t.agent.address true n = ownHeader n s := by rw [hagent, slotHeader_own n hn]
  rw [offerAction, slotHeld_eq, if_neg (by simp [hv]), hserve, ← hown]
  exact leaveAs_eq c sl _ words _ hcycle

end Offer

/-! ## A first sending (R134 step 2, R135) -/

section FirstSending
variable {cls : OfferClass} {s : State}

theorem sendNew_reply {reply : Reply} {rest : List Reply} (hroom : s.ret.inFlight.length < s.params.returnWindow.toNat)
    (hadm : classAdmits cls .reply = true) (hq : s.ret.replies = reply :: rest) :
    sendNew cls s =
      let e := firstSending .reply (replyContent reply) s.framer.acceptedCount s.ret
      (s.putRet { appendSent e s.ret with replies := rest }, some (recordPayload false e)) := by
  rw [sendNew, if_neg (Nat.not_le.mpr hroom)]
  simp only [hadm, if_true, hq]

/-- The event queue comes after the replies: its head is sent where no reply waits that the class admits. -/
theorem sendNew_waiting {w : Waiting} {rest : List Waiting}
    (hroom : s.ret.inFlight.length < s.params.returnWindow.toNat)
    (hturn : cls = .event ∨ cls = .any ∧ s.ret.replies = []) (hq : s.ret.events = w :: rest) :
    sendNew cls s =
      let e := firstSending (waitingKind w) (waitingContent s.ret w) s.framer.acceptedCount s.ret
      let r := { appendSent e s.ret with events := rest }
      (s.putRet (if w = .overflow then { r with lost := 0, firstLoss := none } else r),
        some (recordPayload false e)) := by
  rw [sendNew, if_neg (Nat.not_le.mpr hroom)]
  obtain rfl | ⟨rfl, hnone⟩ := hturn
  · simp only [classAdmits, hq, if_true, Bool.false_eq_true, if_false]
  · simp only [classAdmits, hnone, hq, if_true]

theorem sendNew_nothing (hroom : s.ret.inFlight.length < s.params.returnWindow.toNat)
    (hnone : cls = .reply ∧ s.ret.replies = [] ∨ cls = .event ∧ s.ret.events = []) : sendNew cls s = (s, none) := by
  rw [sendNew, if_neg (Nat.not_le.mpr hroom)]
  obtain ⟨rfl, hq⟩ | ⟨rfl, hq⟩ := hnone <;>
    simp only [classAdmits, hq, if_true, Bool.false_eq_true, if_false]

theorem serveOffer_sendNew (hr : s.ret.resendAt = none) : serveOffer cls s = sendNew cls s := by
  simp only [serveOffer, hr]

end FirstSending

/-- RECORD_SENT where the return path hands over the entry e and becomes r. -/
theorem exec_recordSent_leaving {c : Cycle} {n : Nat} {sl : Slot} {cls : OfferClass} {e : Sent} {r : ReturnPath}
    {s : State}
    (ho : offeredSlot s = some (n, sl, cls)) (hc : s.framer.cycle = some c) (hv : arrivedHeld sl = false)
    (hr : s.ret.resendAt = none) (hsend : sendNew cls s = (s.putRet r, some (recordPayload false e))) :
    exec .recordSent s = .next (leaving c sl (ownHeader n s) (recordPayload false e)
      { s with engine := { s.engine with handover := some (recordPayload false e) }, ret := r }) := by
  have hserve := (serveOffer_sendNew hr).trans hsend
  rw [exec_recordSent ho hr, offerAction_words hv (offeredSlot_lt ho) hserve hc rfl]
  rfl

/-- Settles O44: the queue that is served, by the class and the waiting replies, and the head's kind. -/
theorem recordSentNumbersAndSendsTheHead : Obligations.RecordSentNumbersAndSendsTheHead := by
  intro c n sl cls s ho hc hv hr hroom sent
  refine ⟨fun reply rest hcls hq => ?reply, fun event rest hturn hq => ?event, fun alert rest hturn hq => ?alert,
    fun first rest hturn hq hfirst => ?overflow, fun hnone => ?nothing⟩
  case reply =>
    have hadm : classAdmits cls .reply = true := by
      cases cls with
      | any | reply => rfl
      | event => exact absurd rfl hcls
    rw [exec_recordSent_leaving ho hc hv hr (sendNew_reply hroom hadm hq), recordPayload_first]
    simp only [sent, ← wordOf_zero]
    rfl
  case event | alert =>
    rw [exec_recordSent_leaving ho hc hv hr (sendNew_waiting hroom hturn hq), recordPayload_first]
    simp only [sent, ← wordOf_zero]
    rfl
  case overflow =>
    rw [exec_recordSent_leaving ho hc hv hr (sendNew_waiting hroom hturn hq), recordPayload_first]
    simp only [waitingContent, hfirst]
    rfl
  case nothing =>
    have hserve := (serveOffer_sendNew hr).trans (sendNew_nothing hroom hnone)
    rw [exec_recordSent ho hr, offerAction_nothing hv hserve]

/-! ## A resending (R134 step 1, R136, R139) -/

theorem classAdmits_iff (cls : OfferClass) (kind : RecordKind) :
    classAdmits cls kind = true ↔ cls = .any ∨ (cls = .reply ∧ kind = .reply) ∨ (cls = .event ∧ kind ≠ .reply) := by
  cases cls <;> cases kind <;> decide

theorem classAdmits_false_iff (cls : OfferClass) (kind : RecordKind) :
    classAdmits cls kind = false ↔ (cls = .reply ∧ kind ≠ .reply) ∨ (cls = .event ∧ kind = .reply) := by
  cases cls <;> cases kind <;> decide

section Resending
variable {cls : OfferClass} {p : Nat} {e : Sent} {s : State} (hr : s.ret.resendAt = some p)
  (he : s.ret.inFlight[p]? = some e)
include hr he

theorem serveOffer_resend (hadm : classAdmits cls e.kind = true) :
    serveOffer cls s = (countResend (s.putRet { s.ret with
      inFlight := s.ret.inFlight.set p (resentEntry s.framer.acceptedCount e)
      resendAt := if p + 1 < s.ret.inFlight.length then some (p + 1) else none }), some (recordPayload true e)) := by
  simp only [serveOffer, hr, resendAt, he, hadm, if_true, List.length_set]

theorem serveOffer_notAdmitted (hadm : classAdmits cls e.kind = false) : serveOffer cls s = (s, none) := by
  simp only [serveOffer, hr, resendAt, he, hadm, Bool.false_eq_true, if_false]

end Resending

/-- Settles O45, by whether the class admits the kind of the entry at the resend position. -/
theorem recordResentMovesThePositionOn : Obligations.RecordResentMovesThePositionOn := by
  intro c n sl cls p e s ho hc hv hr he words
  have hwords : recordPayload true e = words := recordPayload_resent e
  refine ⟨fun hadm => ?resent, fun hnot => ?nothing⟩
  case resent =>
    have hserve := serveOffer_resend hr he ((classAdmits_iff cls e.kind).mpr hadm)
    rw [countResend_eq, hwords] at hserve
    rw [exec_recordResent ho hr, offerAction_words hv (offeredSlot_lt ho) hserve hc rfl]
    rfl
  case nothing =>
    have hserve := serveOffer_notAdmitted hr he ((classAdmits_false_iff cls e.kind).mpr hnot)
    rw [exec_recordResent ho hr, offerAction_nothing hv hserve]

end Sys2Proof.Machine
end

section
/-! PROOFS. ACKNOWLEDGE (R142 to R144): what it names, what it removes, and its ending without a reply (R159). -/

namespace Sys2Proof.Machine

open Sys2Proof.Safety

/-! ## The number an argument names -/

theorem loByte_setWidth (b : Byte) : loByte (b.setWidth 16) = b := by
  apply BitVec.eq_of_toNat_eq
  simp [loByte]
  exact b.isLt

theorem setWidth_loByte {w : Word} (h : w.toNat ≤ 255) : (loByte w).setWidth 16 = w := by
  apply BitVec.eq_of_toNat_eq
  simp [loByte]
  omega

/-! ## The return path after an acknowledgement (R142 to R144) -/

/-- The resend position stays on its entry, or moves to the oldest entry left (R143). -/
theorem removeOldest_eq {older newer : List Sent} {e : Sent} {r : ReturnPath} (h : r.inFlight = older ++ e :: newer) :
    removeOldest (older.length + 1) r = { r with
      inFlight := newer
      resendAt := match r.resendAt with
        | none => none
        | some p => if newer = [] then none else if p ≤ older.length then some 0 else some (p - (older.length + 1)) } := by
  have hleft : r.inFlight.drop (older.length + 1) = newer := by
    rw [h, ← List.drop_drop, List.drop_left, List.drop_one, List.tail_cons]
  simp only [removeOldest, hleft, List.isEmpty_iff]
  cases r.resendAt with
  | none => simp
  | some p =>
    by_cases hp : p ≤ older.length
    · simp [hp, Nat.sub_eq_zero_of_le (Nat.le_succ_of_le hp)]
    · simp [hp]

theorem acknowledgeSeq_named {older newer : List Sent} {e : Sent} {s : State} (h : s.ret.inFlight = older ++ e :: newer)
    (hold : ∀ o ∈ older, o.seq ≠ e.seq) :
    acknowledgeSeq e.seq s = s.putRet (removeOldest (older.length + 1) s.ret) := by
  simp only [acknowledgeSeq, h, coveredBy_split older e newer hold]

theorem acknowledgeSeq_stray {seq : Byte} {s : State} (h : ∀ e ∈ s.ret.inFlight, e.seq ≠ seq) :
    acknowledgeSeq seq s = { s with flags := s.flags ||| 0x0400 } := by
  simp only [acknowledgeSeq, coveredBy_none _ _ h]
  rfl

/-! ## The command (R155, R159) -/

section Command
variable {c : Call} {s : State}

theorem effectAcknowledge_done (h0 : c.a0.toNat ≤ 255) (h1 : c.a1 = 0) (h2 : c.a2 = 0) (h3 : c.a3 = 0) :
    effectAcknowledge c s = ⟨acknowledgeSeq (loByte c.a0) s, .done, 0, 0, 0⟩ :=
  if_pos ⟨h0, h1, h2, h3⟩

theorem effectAcknowledge_range (h : 255 < c.a0.toNat ∨ c.a1 ≠ 0 ∨ c.a2 ≠ 0 ∨ c.a3 ≠ 0) :
    effectAcknowledge c s = refuse .range s := by
  refine if_neg fun ⟨h0, h1, h2, h3⟩ => ?_
  simp [h1, h2, h3, Nat.not_lt.mpr h0] at h

/-- To a single destination it executes whatever the tag and the reply queue, and leaves only its effect and the count of
its result: no reply and no tag memory. -/
theorem exec_acknowledge_single (hd : c.dest = .single) (hat : atCompletion s = true) {e : Effect}
    (he : effectAcknowledge c s = e) : exec (.acknowledge c) s = .next (countResult e.result e.state) := by
  subst he
  refine (commandStep_atCompletion 13 c s hat).trans (congrArg _ ?_)
  have hkind : kindOf 13 = .acknowledge := rfl
  simp only [takeCommand, judgeCommand, executeCommand, hd, hkind, isReset_other (k := .acknowledge) (by decide),
    effectOf, if_true, Bool.false_eq_true, if_false]

end Command

/-- Settles O47, by what the argument names: an entry of the in-flight list, none, or no sequence number. -/
theorem acknowledgeRemovesTheNamedAndOlderEntries : Obligations.AcknowledgeRemovesTheNamedAndOlderEntries := by
  refine ⟨fun c s hd hat => ⟨fun older e newer h0 h1 h2 h3 hlist hname hold => ?named,
    fun h0 h1 h2 h3 hstray => ?stray, fun h => ?range⟩, fun c s hd hat => ?group⟩
  case named =>
    rw [exec_acknowledge_single hd hat (effectAcknowledge_done h0 h1 h2 h3), hname, loByte_setWidth,
      acknowledgeSeq_named hlist hold, removeOldest_eq hlist]
    rfl
  case stray =>
    have hnone : ∀ e ∈ s.ret.inFlight, e.seq ≠ loByte c.a0 := fun e hmem hseq =>
      hstray e hmem (by rw [hseq, setWidth_loByte h0])
    rw [exec_acknowledge_single hd hat (effectAcknowledge_done h0 h1 h2 h3), acknowledgeSeq_stray hnone]
    rfl
  case range =>
    rw [exec_acknowledge_single hd hat (effectAcknowledge_range h), ← countRefused_eq]
    rfl
  case group =>
    exact (commandStep_atCompletion 13 c s hat).trans (congrArg _ (takeCommand_destinationRefused hd (by decide)))

end Sys2Proof.Machine
end

section
/-! PROOFS. The reading, clearing and echoing commands (R161 to R163, R165 to R168): the outcomes of their effects, the
parameter table of R174 and the counter table of R167, and the refusal of a kind that no group may carry (R155). -/

namespace Sys2Proof.Machine

open Sys2Proof.Safety

/-! ## A command row by its record (R13, R154) -/

/-- The row of a command record is the agent's taking of that record. -/
theorem exec_commandRecord {i : Instr} {code : Byte} {c : Call} (h : commandRecord i = some (code, c)) (s : State) :
    exec i s = commandStep code c s := by
  cases i <;> cases h <;> rfl

/-- A command that reaches execution, other than ACKNOWLEDGE and RESET-STATION, ends with its kind's effect (R159). -/
theorem exec_executes {i : Instr} {code : Byte} {c : Call} {s : State} (hi : commandRecord i = some (code, c))
    (hx : Executes c.dest c.tag s) (hack : kindOf code ≠ .acknowledge) (hreset : kindOf code ≠ .resetStation)
    (hgroup : c.dest ≠ .single → groupAllowed (kindOf code) = true) {e : Effect} (he : effectOf (kindOf code) c s = e) :
    exec i s = .next (ending c.dest c.tag code e.result e.d0 e.d1 e.d2 e.state) :=
  (exec_commandRecord hi s).trans (commandStep_executes hx hack (isReset_other hreset) hgroup e he)

/-- A kind that no group may carry is refused for its destination, before any test of its tag (R155). -/
theorem exec_destinationRefused {i : Instr} {code : Byte} {c : Call} {s : State} (hi : commandRecord i = some (code, c))
    (hd : c.dest ≠ .single) (hat : atCompletion s = true) (hcode : code ∉ groupCodes) :
    exec i s = .next (refusedForDestination s) := by
  have hgroup : groupAllowed (kindOf code) = false := Bool.eq_false_iff.mpr (mt (groupAllowed_iff code).mp hcode)
  rw [exec_commandRecord hi, commandStep_atCompletion code c s hat, takeCommand_destinationRefused hd hgroup]

/-! ## ECHO and unknown kinds (R161, R162) -/

section Outcomes
variable {c : Call} {s : State}

theorem effectEcho_done (h3 : c.a3 = 0) : effectEcho c s = ⟨s, .done, c.a0, c.a1, c.a2⟩ :=
  if_pos h3

theorem effectEcho_range (h3 : c.a3 ≠ 0) : effectEcho c s = refuse .range s :=
  if_neg h3

/-! ## READ-PARAM (R163, R174) -/

theorem tableValue_eq_none (s : State) {n : Nat} (h : 62 < n) : tableValue s n = none := by
  unfold tableValue
  split
  on_goal -1 => rfl
  all_goals omega

theorem paramOf_eq_none {number : Word} (h : 62 < number.toNat) : paramOf number = none := by
  simp (disch := omega) only [paramOf, if_neg, dif_neg]

/-- The value a number has in the table is that of the parameter it names. -/
theorem tableValue_eq (s : State) (number : Word) :
    tableValue s number.toNat = (paramOf number).map fun p => paramValue p s := by
  by_cases h : number.toNat ≤ 62
  · obtain ⟨n, hn⟩ : ∃ n, number.toNat = n := ⟨_, rfl⟩
    obtain rfl : number = BitVec.ofNat 16 n := by rw [← hn, BitVec.ofNat_toNat, BitVec.setWidth_eq]
    rw [hn] at h
    interval_cases n <;> rfl
  · rw [tableValue_eq_none s (Nat.not_le.mp h), paramOf_eq_none (Nat.not_le.mp h)]
    rfl

theorem effectReadParam_done {v : Word} (h1 : c.a1 = 0) (h2 : c.a2 = 0) (h3 : c.a3 = 0)
    (hv : tableValue s c.a0.toNat = some v) : effectReadParam c s = ⟨s, .done, c.a0, v, 0⟩ := by
  rw [tableValue_eq, Option.map_eq_some_iff] at hv
  obtain ⟨p, hp, rfl⟩ := hv
  simp only [effectReadParam, h1, h2, h3, hp, and_self, if_true]

theorem effectReadParam_unknown (h1 : c.a1 = 0) (h2 : c.a2 = 0) (h3 : c.a3 = 0)
    (hv : tableValue s c.a0.toNat = none) : effectReadParam c s = ⟨s, .unknown, c.a0, 0, 0⟩ := by
  rw [tableValue_eq, Option.map_eq_none_iff] at hv
  simp only [effectReadParam, h1, h2, h3, hv, and_self, if_true]

theorem effectReadParam_range (h : c.a1 ≠ 0 ∨ c.a2 ≠ 0 ∨ c.a3 ≠ 0) : effectReadParam c s = refuse .range s :=
  if_neg (by tauto)

/-! ## READ-STATUS (R165) -/

theorem guardWord_eq (s : State) : guardWord s =
    s.guard.causes.setWidth 16 + 256 * causesPresent s + if s.guard.state = .tripped then 32768 else 0 := by
  rw [guardWord, presentCauses_word]
  cases s.guard.state <;> rfl

theorem effectReadStatus_done (ha : NoArguments c) :
    effectReadStatus c s = ⟨s, .done, s.flags, guardWord s, s.guard.tripCycle⟩ :=
  if_pos ((noArguments_iff c).mpr ha)

theorem effectReadStatus_range (ha : ¬ NoArguments c) : effectReadStatus c s = refuse .range s :=
  if_neg (mt (noArguments_iff c).mp ha)

/-! ## READ-COUNTERS (R167) -/

/-- The seven counters stand in the order of their indices, and two places beyond the last read as 0. -/
theorem counterAt_eq_of_getElem? {k : Counters} {i : Nat} {d : Word}
    (h : [k.missed, k.damaged, k.collisions, k.eventsLost, k.resends, k.refused, k.abandoned, 0, 0][i]? = some d) :
    counterAt k i = d := by
  obtain ⟨hi, rfl⟩ := List.getElem?_eq_some_iff.mp h
  change i < 9 at hi
  interval_cases i <;> rfl

theorem effectReadCounters_done (h0 : c.a0.toNat ≤ 6) (h1 : c.a1 = 0) (h2 : c.a2 = 0) (h3 : c.a3 = 0) :
    effectReadCounters c s = ⟨s, .done, counterAt s.counters c.a0.toNat, counterAt s.counters (c.a0.toNat + 1),
      counterAt s.counters (c.a0.toNat + 2)⟩ :=
  if_pos ⟨h0, h1, h2, h3⟩

theorem effectReadCounters_range (h : 6 < c.a0.toNat ∨ c.a1 ≠ 0 ∨ c.a2 ≠ 0 ∨ c.a3 ≠ 0) :
    effectReadCounters c s = refuse .range s :=
  if_neg fun ⟨h0, h1, h2, h3⟩ => by simp [h1, h2, h3, Nat.not_lt.mpr h0] at h

/-! ## CLEAR-STATUS (R166) -/

theorem effectClearStatus_done (h0 : c.a0.toNat < 16384) (h1 : c.a1 = 0) (h2 : c.a2 = 0) (h3 : c.a3 = 0) :
    effectClearStatus c s = ⟨{ s with flags := s.flags &&& ~~~c.a0 }, .done, s.flags &&& ~~~c.a0, 0, 0⟩ :=
  if_pos ⟨h1, h2, h3, h0⟩

theorem effectClearStatus_range (h : 16384 ≤ c.a0.toNat ∨ c.a1 ≠ 0 ∨ c.a2 ≠ 0 ∨ c.a3 ≠ 0) :
    effectClearStatus c s = ⟨s, .range, clearRefusalData s.flags, 0, 0⟩ :=
  if_neg fun ⟨h1, h2, h3, h0⟩ => by simp [h1, h2, h3, Nat.not_le.mpr h0] at h

/-! ## CLEAR-COUNTERS (R168) -/

/-- A word names the counter of an index by its place of weight 2 ^ index. -/
theorem clearCountersNamed_eq (named : Word) (k : Counters) : clearCountersNamed named k =
    let after : Nat → Word → Word := fun i w => if named.toNat / 2 ^ i % 2 = 1 then 0 else w
    ⟨after 0 k.missed, after 1 k.damaged, after 2 k.collisions, after 3 k.eventsLost, after 4 k.resends,
      after 5 k.refused, after 6 k.abandoned⟩ := by
  simp only [clearCountersNamed, BitVec.getLsbD, Nat.testBit_eq_decide_div_mod_eq, decide_eq_true_eq]

theorem effectClearCounters_done (h0 : c.a0.toNat ≤ 127) (h1 : c.a1 = 0) (h2 : c.a2 = 0) (h3 : c.a3 = 0) :
    effectClearCounters c s =
      ⟨{ s with counters := clearCountersNamed c.a0 s.counters }, .done, c.a0, 0, 0⟩ :=
  if_pos ⟨h0, h1, h2, h3⟩

theorem effectClearCounters_range (h : 127 < c.a0.toNat ∨ c.a1 ≠ 0 ∨ c.a2 ≠ 0 ∨ c.a3 ≠ 0) :
    effectClearCounters c s = ⟨s, .range, c.a0, 0, 0⟩ :=
  if_neg fun ⟨h0, h1, h2, h3⟩ => by simp [h1, h2, h3, Nat.not_lt.mpr h0] at h

/-! ## The rows, by the outcome of the effect (R159) -/

section Single
variable (hd : c.dest = .single) (hx : Executes c.dest c.tag s) {e : Effect}
include hd hx

theorem exec_echo_single (he : effectEcho c s = e) :
    exec (.echo c) s = .next (ending c.dest c.tag 0x01 e.result e.d0 e.d1 e.d2 e.state) :=
  exec_executes rfl hx (by decide) (by decide) (absurd hd) he

theorem exec_unknownCommand_single {code : Byte} (hkind : kindOf code = .unknown) :
    exec (.unknownCommand code c) s = .next (ending c.dest c.tag code .unknown 0 0 0 s) :=
  exec_executes (e := refuse .unknown s) rfl hx (by simp [hkind]) (by simp [hkind]) (absurd hd) (by rw [hkind]; rfl)

theorem exec_readParam_single (he : effectReadParam c s = e) :
    exec (.readParam c) s = .next (ending c.dest c.tag 0x02 e.result e.d0 e.d1 e.d2 e.state) :=
  exec_executes rfl hx (by decide) (by decide) (absurd hd) he

theorem exec_readStatus_single (he : effectReadStatus c s = e) :
    exec (.readStatus c) s = .next (ending c.dest c.tag 0x09 e.result e.d0 e.d1 e.d2 e.state) :=
  exec_executes rfl hx (by decide) (by decide) (absurd hd) he

theorem exec_readCounters_single (he : effectReadCounters c s = e) :
    exec (.readCounters c) s = .next (ending c.dest c.tag 0x0B e.result e.d0 e.d1 e.d2 e.state) :=
  exec_executes rfl hx (by decide) (by decide) (absurd hd) he

end Single

theorem exec_clearStatus (hx : Executes c.dest c.tag s) {e : Effect} (he : effectClearStatus c s = e) :
    exec (.clearStatus c) s = .next (ending c.dest c.tag 0x0A e.result e.d0 e.d1 e.d2 e.state) :=
  exec_executes rfl hx (by decide) (by decide) (fun _ => rfl) he

theorem exec_clearCounters (hx : Executes c.dest c.tag s) {e : Effect} (he : effectClearCounters c s = e) :
    exec (.clearCounters c) s = .next (ending c.dest c.tag 0x0C e.result e.d0 e.d1 e.d2 e.state) :=
  exec_executes rfl hx (by decide) (by decide) (fun _ => rfl) he

end Outcomes

/-! ## The statements -/

/-- Settles O50: ECHO by its last argument, an unknown code by its kind, and a forbidden kind by its destination. -/
theorem echoUnknownAndForbiddenCommands : Obligations.EchoUnknownAndForbiddenCommands := by
  refine ⟨fun c s hd hx => ⟨fun h3 => ?echoDone, fun h3 => ?echoRange⟩, fun code c s hwf hd hx => ?unknown,
    fun i code c s hi hd hcode hat => ?forbidden⟩
  case echoDone => exact exec_echo_single hd hx (effectEcho_done h3)
  case echoRange => exact exec_echo_single hd hx (effectEcho_range h3)
  case unknown => exact exec_unknownCommand_single hd hx ((kindOf_unknown code).mpr hwf)
  case forbidden => exact exec_destinationRefused hi hd hat hcode

/-- Settles O52, by whether the table has a value for the number. -/
theorem readParamReturnsTheTablesValue : Obligations.ReadParamReturnsTheTablesValue := by
  refine ⟨fun c s hd hx => ⟨fun v h1 h2 h3 hv => ?done, fun h1 h2 h3 hv => ?unknown, fun h => ?range⟩,
    fun c s hd hat => ?group⟩
  case done => exact exec_readParam_single hd hx (effectReadParam_done h1 h2 h3 hv)
  case unknown => exact exec_readParam_single hd hx (effectReadParam_unknown h1 h2 h3 hv)
  case range => exact exec_readParam_single hd hx (effectReadParam_range h)
  case group => exact exec_destinationRefused rfl hd hat (by decide)

/-- Settles O54, by the outcomes of the two effects, the guard word and the counters in their own terms. -/
theorem readStatusAndReadCountersReport : Obligations.ReadStatusAndReadCountersReport := by
  refine ⟨fun c s hd hx => ⟨fun ha => ?status, fun ha => ?statusRange⟩,
    fun c s hd hx => ⟨fun d0 d1 d2 h0 h1 h2 h3 hd0 hd1 hd2 => ?counters, fun h => ?countersRange⟩,
    fun c s hd hat => ?statusGroup, fun c s hd hat => ?countersGroup⟩
  case status =>
    rw [← guardWord_eq]
    exact exec_readStatus_single hd hx (effectReadStatus_done ha)
  case statusRange => exact exec_readStatus_single hd hx (effectReadStatus_range ha)
  case counters =>
    rw [← counterAt_eq_of_getElem? hd0, ← counterAt_eq_of_getElem? hd1, ← counterAt_eq_of_getElem? hd2]
    exact exec_readCounters_single hd hx (effectReadCounters_done h0 h1 h2 h3)
  case countersRange => exact exec_readCounters_single hd hx (effectReadCounters_range h)
  case statusGroup | countersGroup => exact exec_destinationRefused rfl hd hat (by decide)

/-- Settles O55, by the outcomes of the two effects; d0 of a refused CLEAR-STATUS is the free reading of log 9. -/
theorem clearingCommandsClearWhatTheyName : Obligations.ClearingCommandsClearWhatTheyName := by
  refine ⟨fun c s hx => ⟨fun h0 h1 h2 h3 => ?status, fun h => ⟨clearRefusalData s.flags, ?statusRange⟩⟩,
    fun c s hx => ⟨fun h0 h1 h2 h3 => ?counters, fun h => ?countersRange⟩⟩
  case status => exact exec_clearStatus hx (effectClearStatus_done h0 h1 h2 h3)
  case statusRange => exact exec_clearStatus hx (effectClearStatus_range h)
  case counters =>
    rw [exec_clearCounters hx (effectClearCounters_done h0 h1 h2 h3), clearCountersNamed_eq]
  case countersRange => exact exec_clearCounters hx (effectClearCounters_range h)

end Sys2Proof.Machine
end

section
/-! PROOFS. Every way the station's state can change: the elementary changes, what brings each of them, and the walk
through the model that writes every operation as a chain of them. The laws every step keeps are proved on these changes, one
change at a time. -/

namespace Sys2Proof.Machine

open Sys2Proof.Safety

/-! ## The elementary changes -/

/-- What brings a change about: a row of the reset pin or the supply, the pins, the framer at work on the stream, the
delay line's shift and the rewriting in it, or the execution of a command of a kind. -/
inductive Origin where
  | hardware
  | pin
  | framer
  | shift
  | rewriting
  | command (kind : CommandKind)

/-- What a channel keeps: its guard mode and the configuration to come; HELD too, unless a NORMAL guard releases it (R90). -/
structure ChannelKept (g : GuardState) (c d : Channel) : Prop where
  guardMode : d.guardMode = c.guardMode
  config : d.pending.getD d.config = c.pending.getD c.config
  held : d.held = c.held ∨ (g = .normal ∧ d.held = false)

/-- One change of the return path under a window (R123 to R143). -/
inductive RetChange (window : Nat) (r : ReturnPath) : ReturnPath → Prop
  | alert (a : Alert) : r.events.length < 16 → RetChange window r { r with events := r.events ++ [.alert a] }
  | event (e : Event) : r.events.length < 14 → RetChange window r { r with events := r.events ++ [.event e] }
  | loss (cycle : Word) : RetChange window r { r with
      lost := addSaturating r.lost 1
      firstLoss := if r.lost = 0 then some cycle else r.firstLoss }
  | overflow : Waiting.overflow ∉ r.events → r.events.length < 16 → r.lost ≠ 0 →
      RetChange window r { r with events := r.events ++ [.overflow] }
  | reply (x : Reply) : r.replies.length < 8 → RetChange window r { r with replies := r.replies ++ [x] }
  | sendReply (e : Sent) (x : Reply) (rest : List Reply) : r.inFlight.length < window → e.seq = r.nextSeq →
      e.resends = 0 → r.replies = x :: rest → RetChange window r { appendSent e r with replies := rest }
  | sendWaiting (e : Sent) (w : Waiting) (rest : List Waiting) : r.inFlight.length < window → e.seq = r.nextSeq →
      e.resends = 0 → r.events = w :: rest →
      RetChange window r (if w = .overflow then { { appendSent e r with events := rest } with lost := 0, firstLoss := none }
        else { appendSent e r with events := rest })
  | resend (position : Nat) (count : Word) (e : Sent) : r.inFlight[position]? = some e →
      RetChange window r { r with
        inFlight := r.inFlight.set position (resentEntry count e)
        resendAt := if position + 1 < r.inFlight.length then some (position + 1) else none }
  | retry : r.inFlight ≠ [] → RetChange window r { r with resendAt := some 0 }
  | abandon : r.resendAt = none → RetChange window r { r with inFlight := [] }
  | acknowledge (n : Nat) : RetChange window r (removeOldest n r)

/-- One change of the state, brought about by an origin that is allowed. -/
inductive Change (allowed : Origin → Prop) (s : State) : State → Prop
  | powerUp : allowed .hardware → Change allowed s (powerUpState s)
  | assert : allowed .hardware → Change allowed s (assertReset s)
  | release (straps : BitVec 5) : allowed .hardware → Change allowed s (releaseReset straps s)
  | pins (v : Pins) : allowed .pin → v.resetLow = s.pins.resetLow → Change allowed s (s.putPins v)
  | framer (v : Framer) : allowed .framer → Change allowed s (s.putFramer v)
  | shift (item : Item) : allowed .shift → Change allowed s (s.putFwd (forwardItem item s.fwd))
  | rewrite (v : Forward) : allowed .rewriting → v.line.map Cell.arrived = s.fwd.line.map Cell.arrived →
      v.tx = s.fwd.tx → Change allowed s (s.putFwd v)
  | plan (v : Plan) : Change allowed s (s.putPlan v)
  | engine (v : Engine) : Change allowed s (s.putEngine v)
  | sampler (v : Sampler) : Change allowed s (s.putSampler v)
  | counters (v : Counters) : Change allowed s (s.putCounters v)
  | choice (v : Nat) : Change allowed s (s.putChoice v)
  | flag (f : Flag) : Change allowed s (setFlag f s)
  | clear (named : Word) : allowed (.command .clearStatus) → Change allowed s (clearFlags named s)
  | channels (v : Vector Channel 8) : (∀ i : Fin 8, ChannelKept s.guard.state s.channels[i] v[i]) →
      Change allowed s (s.putChannels v)
  | guardTrip (c : Cause) : s.guard.state = .normal →
      Change allowed s ((s.putGuard ⟨.tripped, causeAlone c, lastNumber s, c⟩).putChannels (holdChannels s.channels))
  | guardCause (c : Cause) : s.guard.state = .tripped →
      Change allowed s (s.putGuard { s.guard with causes := s.guard.causes ||| causeAlone c })
  | guardClear : allowed (.command .guardClear) →
      Change allowed s (s.putGuard { s.guard with state := .normal, causes := 0 })
  | ret (r : ReturnPath) : RetChange s.params.returnWindow.toNat s.ret r → Change allowed s (s.putRet r)
  | rememberSingle (x : Reply) : x.tag ≠ 0 →
      Change allowed s (s.putAgent { s.agent with stationTag := x.tag, stored := some x })
  | rememberGroup (tag : Byte) : Change allowed s (s.putAgent { s.agent with groupTag := tag })
  | store (p : Param) (v : Word) : allowed (.command .writeParam) → p ≠ .guardPolarity → paramAdmits p v = true →
      writeRefusal p v s = none → Change allowed s (storeParam p v s)
  | polarity (v : Word) : allowed (.command .writeParam) → v.toNat ≤ 1 →
      Change allowed s (s.putParams { s.params with guardPolarity := v })
  | stationReset (dest : DestType) (tag : Byte) : allowed (.command .resetStation) →
      Change allowed s (executeReset dest tag s)

/-- A chain of changes. -/
abbrev Changes (allowed : Origin → Prop) : State → State → Prop :=
  Relation.ReflTransGen (Change allowed)

variable {allowed : Origin → Prop}

theorem Changes.refl {s : State} : Changes allowed s s := Relation.ReflTransGen.refl

theorem Change.mono {allowed' : Origin → Prop} (h : ∀ o, allowed o → allowed' o) {s t : State}
    (hc : Change allowed s t) : Change allowed' s t := by
  cases hc with
  | powerUp a => exact .powerUp (h _ a)
  | assert a => exact .assert (h _ a)
  | release straps a => exact .release straps (h _ a)
  | pins v a h1 => exact .pins v (h _ a) h1
  | framer v a => exact .framer v (h _ a)
  | shift item a => exact .shift item (h _ a)
  | rewrite v a h1 h2 => exact .rewrite v (h _ a) h1 h2
  | plan v => exact .plan v
  | engine v => exact .engine v
  | sampler v => exact .sampler v
  | counters v => exact .counters v
  | choice v => exact .choice v
  | flag f => exact .flag f
  | clear named a => exact .clear named (h _ a)
  | channels v h1 => exact .channels v h1
  | guardTrip c h1 => exact .guardTrip c h1
  | guardCause c h1 => exact .guardCause c h1
  | guardClear a => exact .guardClear (h _ a)
  | ret r h1 => exact .ret r h1
  | rememberSingle x h1 => exact .rememberSingle x h1
  | rememberGroup tag => exact .rememberGroup tag
  | store p v a h1 h2 h3 => exact .store p v (h _ a) h1 h2 h3
  | polarity v a h1 => exact .polarity v (h _ a) h1
  | stationReset dest tag a => exact .stationReset dest tag (h _ a)

theorem Changes.mono {allowed' : Origin → Prop} (h : ∀ o, allowed o → allowed' o) {s t : State}
    (hc : Changes allowed s t) : Changes allowed' s t :=
  Relation.ReflTransGen.mono (fun _ _ => Change.mono h) _ _ hc

/-- A property that every change keeps is kept by every chain of them. -/
theorem Changes.keeps {P : State → Prop} (hkeep : ∀ {s t}, Change allowed s t → P s → P t) {s t : State}
    (h : Changes allowed s t) (hs : P s) : P t := by
  induction h with
  | refl => exact hs
  | tail _ hc ih => exact hkeep hc ih

/-- What no change alters stays as it is along a chain. -/
theorem Changes.same {α : Type} {f : State → α} (hsame : ∀ {s t}, Change allowed s t → f t = f s) {s t : State}
    (h : Changes allowed s t) : f t = f s := by
  induction h with
  | refl => rfl
  | tail _ hc ih => exact (hsame hc).trans ih

/-! ## Flags, counts and the event queue -/

theorem changes_setFlagIf (b : Bool) (f : Flag) (s : State) : Changes allowed s (setFlagIf b f s) := by
  cases b with
  | false => exact .refl
  | true => exact .single (.flag f)

theorem changes_queueAlert (a : Alert) (s : State) : Changes allowed s (queueAlert a s) := by
  unfold queueAlert
  split
  next h => exact .single (.ret _ (.alert a h))
  next => exact .single (.flag _)

theorem addSaturating_one_ne_zero (w : Word) : addSaturating w 1 ≠ 0 := by
  have hw := w.isLt
  rw [addSaturating_eq_bump, bump, ne_eq, ← BitVec.toNat_inj, BitVec.toNat_ofNat]
  simp
  omega

theorem changes_queueOverflow {s : State} (h : s.ret.lost ≠ 0) : Changes allowed s (queueOverflow s) := by
  unfold queueOverflow
  split
  next hroom => exact .single (.ret _ (.overflow hroom.1 hroom.2 h))
  next => exact .refl

theorem changes_queueEvent (e : Event) (s : State) : Changes allowed s (queueEvent e s) := by
  unfold queueEvent
  split
  next h => exact .single (.ret _ (.event e h))
  next =>
    have hloss : Changes allowed s (recordLoss e.cycle s) := .single (.ret _ (.loss e.cycle))
    exact ((hloss.tail (.flag .eventLost)).tail (.counters _)).trans
      (changes_queueOverflow (addSaturating_one_ne_zero s.ret.lost))

theorem changes_queueRaised (r : Raised) (s : State) : Changes allowed s (queueRaised r s) := by
  cases r with
  | event e => exact changes_queueEvent e s
  | alert a => exact changes_queueAlert a s

theorem changes_queueAll (rs : List Raised) (s : State) : Changes allowed s (queueAll rs s) := by
  induction rs generalizing s with
  | nil => exact .refl
  | cons r rs ih => exact (changes_queueRaised r s).trans (ih _)

/-! ## The guard and what falls amid a work -/

theorem changes_trip (c : Cause) (s : State) : Changes allowed s (trip c s) := by
  unfold trip
  cases h : s.guard.state with
  | normal => exact Relation.ReflTransGen.head (.guardTrip c h) (changes_queueAlert _ _)
  | tripped => exact .single (.guardCause c h)

theorem changes_setGuardPin (hpin : allowed .pin) (high : Bool) (s : State) :
    Changes allowed s (setGuardPin high s) := by
  have hput : Changes allowed s (s.putPins { s.pins with guardHigh := high }) := .single (.pins _ hpin rfl)
  unfold setGuardPin
  dsimp only
  split
  next => exact hput.trans (changes_trip .line _)
  next => exact hput

theorem changes_takeAmid (hpin : allowed .pin) (a : Amid) (s : State) : Changes allowed s (takeAmid s a) := by
  cases a with
  | guardChange => exact changes_setGuardPin hpin _ s
  | fault =>
    show Changes allowed s (if s.inReset then s else setFlag .wordFault s)
    split
    next => exact .refl
    next => exact .single (.flag _)

theorem changes_takeAmids (hpin : allowed .pin) (as : List Amid) (s : State) :
    Changes allowed s (takeAmids as s) := by
  induction as generalizing s with
  | nil => exact .refl
  | cons a as ih => exact (changes_takeAmid hpin a s).trans (ih _)

theorem changes_interleave (hpin : allowed .pin) {fs : List (State → State)}
    (hfs : ∀ f ∈ fs, ∀ s, Changes allowed s (f s)) (amid : List (List Amid)) (s : State) :
    Changes allowed s (interleave fs amid s) := by
  induction fs generalizing amid s with
  | nil => exact changes_takeAmids hpin _ s
  | cons f fs ih =>
    have hfirst : Changes allowed s (f (takeAmids (amid.headD []) s)) :=
      (changes_takeAmids hpin _ s).trans (hfs f (by simp) _)
    exact hfirst.trans (ih (fun g hg => hfs g (by simp [hg])) amid.tail _)

theorem changes_queueAtMarker (hpin : allowed .pin) (amid : List (List Amid)) (rs : List Raised) (s : State) :
    Changes allowed s (queueAtMarker amid rs s) := by
  refine Relation.ReflTransGen.head (.choice _) (changes_interleave hpin (fun f hf t => ?_) amid _)
  obtain ⟨r, -, rfl⟩ := List.mem_map.mp hf
  exact changes_queueRaised r t

/-! ## The channels -/

theorem channelKept_refl (g : GuardState) (c : Channel) : ChannelKept g c c :=
  ⟨rfl, rfl, .inl rfl⟩

theorem getElem_mapChannels (f : Channel → Channel) (cs : Vector Channel 8) (i : Fin 8) :
    (mapChannels f cs)[i] = f cs[i] := by
  simp [mapChannels]

/-- Channels changed one by one by a function that keeps what a channel keeps. -/
theorem changes_mapChannels {f : Channel → Channel} {s : State}
    (h : ∀ c : Channel, ChannelKept s.guard.state c (f c)) :
    Changes allowed s (s.putChannels (mapChannels f s.channels)) :=
  .single (.channels _ fun i => by rw [getElem_mapChannels]; exact h _)

theorem applyChannel_eq (g : GuardState) (c : Channel) : applyChannel g c = appliedChannel g c := by
  unfold applyChannel appliedChannel
  cases g with
  | tripped => simp
  | normal => cases hs : (c.pending.getD c.config).source <;> cases c.ready <;> simp [hs]

theorem channelKept_applyChannel (g : GuardState) (c : Channel) : ChannelKept g c (applyChannel g c) := by
  refine ⟨rfl, rfl, ?_⟩
  simp only [applyChannel]
  split
  next h => exact .inr ⟨h.1, rfl⟩
  next => exact .inl rfl

theorem changes_applyInstant (s : State) : Changes allowed s (applyInstant s) :=
  changes_mapChannels fun c => channelKept_applyChannel _ c

theorem changes_dropStaging (s : State) : Changes allowed s (s.putChannels (dropStaging s.channels)) :=
  changes_mapChannels fun _ => ⟨rfl, rfl, .inl rfl⟩

theorem changes_makeReady (s : State) : Changes allowed s (s.putChannels (makeReady s.channels)) :=
  changes_mapChannels fun _ => ⟨rfl, rfl, .inl rfl⟩

theorem changes_discardReady (s : State) : Changes allowed s (discardReady s) :=
  (changes_mapChannels (f := fun c => { c with ready := none }) fun _ => ⟨rfl, rfl, .inl rfl⟩).trans
    (changes_setFlagIf _ _ _)

theorem changes_stagePattern (w : Word) (s : State) : Changes allowed s (s.putChannels (stagePattern w s.channels)) := by
  refine .single (.channels _ fun i => ?_)
  simp only [stagePattern, Fin.getElem_fin, Vector.getElem_ofFn]
  split
  next => exact ⟨rfl, rfl, .inl rfl⟩
  next => exact channelKept_refl _ _

/-! ## The other blocks at an accepted marker and at a link loss -/

theorem changes_commitTest (number : Word) (s : State) : Changes allowed s (commitTest number s).1 := by
  unfold commitTest
  split
  next => exact .refl
  next =>
    split
    next => exact .single (.plan _)
    next => exact .refl

theorem changes_takeSample (number : Word) (s : State) : Changes allowed s (takeSample number s).1 :=
  .single (.sampler _)

theorem changes_abandonAll {s : State} (h : s.ret.resendAt = none) : Changes allowed s (abandonAll s) :=
  ((Relation.ReflTransGen.single (.ret _ (.abandon h))).tail (.flag _)).tail (.counters _)

theorem changes_retryTest (s : State) : Changes allowed s (retryTest s).1 := by
  unfold retryTest
  split
  next => exact .refl
  next => exact .refl
  next oldest others hr hl =>
    split
    next => exact .refl
    next =>
      split
      next => exact .single (.ret _ (.retry (by simp [hl])))
      next => exact changes_abandonAll hr

theorem changes_atAcceptedMarker (hpin : allowed .pin) (amid : List (List Amid)) (number : Word) (raised : List Raised)
    (s : State) : Changes allowed s (atAcceptedMarker amid number raised s) :=
  (changes_commitTest number s).trans <| (changes_applyInstant _).trans <| (changes_takeSample number _).trans <|
    (changes_retryTest _).trans (changes_queueAtMarker hpin amid _ _)

theorem changes_raiseLinkLoss (hpin : allowed .pin) (amid : List (List Amid)) (s : State) :
    Changes allowed s (raiseLinkLoss amid s) := by
  refine Relation.ReflTransGen.head (.choice _) (changes_interleave hpin (fun f hf t => ?_) amid _)
  have hcases : f = trip .link ∨ f = queueAlert ⟨.linkLost, lastNumber s, 0, 0⟩ := by
    split at hf <;> simpa [or_comm] using hf
  obtain rfl | rfl := hcases
  · exact changes_trip .link t
  · exact changes_queueAlert _ t

theorem changes_loseLink (hpin : allowed .pin) (hframer : allowed .framer) (amid : List (List Amid)) (s : State) :
    Changes allowed s (loseLink amid s) :=
  Relation.ReflTransGen.head (.framer _ hframer) ((changes_discardReady _).trans (changes_raiseLinkLoss hpin amid _))

theorem changes_settle (hpin : allowed .pin) (hframer : allowed .framer) (amid : List (List Amid)) (before : Framer)
    (s : State) : Changes allowed s (settle amid before s) := by
  unfold settle
  split
  next => exact changes_atAcceptedMarker hpin amid _ _ s
  next =>
    split
    next => exact changes_loseLink hpin hframer amid s
    next => exact .refl

/-! ## The framer's own work -/

section Framing
variable (hframer : allowed .framer)
include hframer

theorem changes_takeFailure (s : State) : Changes allowed s (takeFailure s) := by
  unfold takeFailure
  split
  next => exact .single (.framer _ hframer)
  next => exact .single (.framer _ hframer)
  next => exact .refl
  next => exact .refl

theorem changes_missCycle (s : State) : Changes allowed s (missCycle s) :=
  Relation.ReflTransGen.head (.framer _ hframer) <| (changes_discardReady _).trans <|
    Relation.ReflTransGen.head (.counters _) (changes_takeFailure hframer _)

theorem changes_spoilCycle (c : Cycle) (s : State) : Changes allowed s (spoilCycle c s) :=
  Relation.ReflTransGen.head (.framer _ hframer) <| (changes_dropStaging _).trans <|
    Relation.ReflTransGen.head (.engine _) <| Relation.ReflTransGen.head (.flag _) <|
      Relation.ReflTransGen.head (.counters _) (changes_takeFailure hframer _)

theorem changes_acceptCycle (time : Nat) (a b : Word) (s : State) : Changes allowed s (acceptCycle time a b s) :=
  Relation.ReflTransGen.head (.framer _ hframer) ((changes_dropStaging _).tail (.engine _))

theorem changes_enterLocked (time spacing : Nat) (a b : Word) (s : State) :
    Changes allowed s (enterLocked time spacing a b s) :=
  Relation.ReflTransGen.head (.framer _ hframer) (changes_acceptCycle hframer time a b _)

theorem changes_judgeSuccessor (c : Candidate) (time : Nat) (a b : Word) (s : State) :
    Changes allowed s (judgeSuccessor c time a b s) := by
  unfold judgeSuccessor
  dsimp only
  split
  next =>
    split
    next => exact changes_enterLocked hframer time _ a b s
    next => exact .single (.framer _ hframer)
  next => exact .single (.framer _ hframer)

theorem changes_judgeExpected (time : Nat) (a b : Word) (s : State) :
    Changes allowed s (judgeExpected time a b s) := by
  unfold judgeExpected
  split
  next => exact changes_acceptCycle hframer time a b s
  next => exact changes_missCycle hframer s

theorem changes_headerNotValid (j : Judging) (s : State) : Changes allowed s (headerNotValid j s) := by
  unfold headerNotValid
  split
  next => exact .single (.framer _ hframer)
  next => exact .single (.framer _ hframer)
  next => exact changes_missCycle hframer s

theorem changes_headerIsValid (j : Judging) (a b : Word) (s : State) :
    Changes allowed s (headerIsValid j a b s) := by
  unfold headerIsValid
  split
  next => exact .single (.framer _ hframer)
  next =>
    split
    next c _ => exact changes_judgeSuccessor hframer c j.time a b s
    next => exact .single (.framer _ hframer)
  next => exact changes_judgeExpected hframer j.time a b s

theorem changes_headerItem (j : Judging) (item : Item) (s : State) : Changes allowed s (headerItem j item s) := by
  unfold headerItem
  split
  next => exact .single (.framer _ hframer)
  next =>
    split
    next => exact changes_headerIsValid hframer j _ _ s
    next => exact changes_headerNotValid hframer j s
  next =>
    split
    next => exact (changes_headerNotValid hframer j s).tail (.framer _ hframer)
    next => exact (changes_headerNotValid hframer j s).tail (.framer _ hframer)
    next => exact Relation.ReflTransGen.head (.flag _) (changes_headerNotValid hframer j _)
  next => exact changes_headerNotValid hframer j s
  next => exact changes_headerNotValid hframer j s

theorem changes_gapItem (item : Item) (s : State) : Changes allowed s (gapItem item s) := by
  have hjudge (p : Purpose) : Changes allowed s (beginJudging p s) := .single (.framer _ hframer)
  have hwindow : Changes allowed s (if item = .marker ∧ inWindow s.framer.now s then beginJudging .window s
      else
        let t := setFlagIf (item == .marker) .strayMarker s
        if windowCloses s.framer.now t then missCycle t else t) := by
    dsimp only
    split
    next => exact hjudge .window
    next =>
      split
      next => exact (changes_setFlagIf _ _ s).trans (changes_missCycle hframer _)
      next => exact changes_setFlagIf _ _ s
  unfold gapItem
  split
  next =>
    split
    next => exact hjudge .search
    next => exact .refl
  next =>
    split
    next => exact hjudge .successor
    next => exact .refl
  next => exact hwindow
  next => exact hwindow

theorem changes_candidateItem (c : Cycle) (item : Item) (s : State) :
    Changes allowed s (candidateItem c item s) := by
  unfold candidateItem
  dsimp only
  split
  next => exact .single (.framer _ hframer)
  next =>
    split
    next =>
      split
      next => exact .single (.framer _ hframer)
      next => exact .single (.framer _ hframer)
    next =>
      split
      next => exact .single (.framer _ hframer)
      next => exact .single (.framer _ hframer)

end Framing

/-! ## Slots in passing -/

theorem map_arrived_rewriteCells (cells : List Cell) (words : List Word) (change : Word)
    (h : cells.length ≤ words.length) : (rewriteCells cells words change).map Cell.arrived = cells.map Cell.arrived := by
  have hrest (ps : List (Cell × Word)) :
      (ps.map fun (c, w) => { c with rewritten := some w }).map Cell.arrived = ps.map fun p => p.1.arrived := by
    rw [List.map_map]
    rfl
  have hfst : cells.map Cell.arrived = (cells.zip words).map fun p => p.1.arrived := by
    conv_lhs => rw [← List.map_fst_zip h, List.map_map]
    rfl
  rw [hfst]
  unfold rewriteCells
  split
  next hz => rw [hz]; rfl
  next hz => rw [hz, List.map_cons, List.map_cons, hrest]

theorem map_arrived_rewriteSlot {words : List Word} (change : Word) (f : Forward) (h : words.length = 8) :
    (rewriteSlot words change f).line.map Cell.arrived = f.line.map Cell.arrived := by
  show (f.line.take (f.line.length - 8) ++ rewriteCells (f.line.drop (f.line.length - 8)) words change).map _ = _
  rw [List.map_append, map_arrived_rewriteCells _ _ _ (by rw [List.length_drop, h]; omega), ← List.map_append,
    List.take_append_drop]

theorem map_arrived_adjustTrailer (net : Word) (f : Forward) :
    (adjustTrailer net f).line.map Cell.arrived = f.line.map Cell.arrived := by
  unfold adjustTrailer
  split
  next => rfl
  next c hc =>
    obtain ⟨ys, hys⟩ := List.getLast?_eq_some_iff.mp hc
    simp [hys]

theorem adjustTrailer_tx (net : Word) (f : Forward) : (adjustTrailer net f).tx = f.tx := by
  unfold adjustTrailer
  split <;> rfl

section Slots
variable (hframer : allowed .framer) (hrewriting : allowed .rewriting)
include hframer hrewriting

omit hrewriting in
theorem changes_addNet (change : Word) (s : State) : Changes allowed s (addNet change s) := by
  unfold addNet
  split
  next => exact .single (.framer _ hframer)
  next => exact .refl

theorem changes_leaveAs (sl : Slot) (header : Word) (p : Vector Word 6) (s : State) :
    Changes allowed s (leaveAs sl header p s) := by
  have hline {words : List Word} (hw : words.length = 8) (change : Word) :
      Changes allowed s (s.putFwd (rewriteSlot words change s.fwd)) :=
    .single (.rewrite _ hrewriting (map_arrived_rewriteSlot change s.fwd hw) rfl)
  show Changes allowed s (addNet _ (s.putFwd (rewriteSlot _ _ s.fwd)))
  exact (hline rfl _).trans (changes_addNet hframer _ _)

theorem changes_takeAction (word : Fin 6) (release : Bool) (n : Nat) (sl : Slot) (s : State) :
    Changes allowed s (takeAction word release n sl s) := by
  have hstage := changes_stagePattern (allowed := allowed) sl.payload[word] s
  unfold takeAction
  split
  next =>
    dsimp only
    split
    next => exact hstage.trans (changes_leaveAs hframer hrewriting _ _ _ _)
    next => exact hstage
  next => exact .single (.flag _)

theorem changes_fillAction (word : Fin 6) (src : Source) (n : Nat) (sl : Slot) (s : State) :
    Changes allowed s (fillAction word src n sl s) := by
  unfold fillAction
  split
  next => exact Relation.ReflTransGen.head (.flag _) (.single (.counters _))
  next => exact changes_leaveAs hframer hrewriting _ _ _ _

omit hframer hrewriting in
theorem changes_sendNew (cls : OfferClass) (s : State) : Changes allowed s (sendNew cls s).1 := by
  unfold sendNew
  dsimp only
  split
  next => exact .refl
  next hroom =>
    split
    next reply rest hq =>
      have hreplies : s.ret.replies = reply :: rest := by
        split at hq
        · exact hq
        · cases hq
      exact .single (.ret _ (.sendReply _ reply rest (Nat.not_le.mp hroom) rfl rfl hreplies))
    next =>
      split
      next w rest hq =>
        have hevents : s.ret.events = w :: rest := by
          split at hq
          · exact hq
          · cases hq
        exact .single (.ret _ (.sendWaiting _ w rest (Nat.not_le.mp hroom) rfl rfl hevents))
      next => exact .refl

omit hframer hrewriting in
theorem changes_resendAt (cls : OfferClass) (position : Nat) (s : State) :
    Changes allowed s (resendAt cls position s).1 := by
  unfold resendAt
  split
  next => exact .refl
  next e he =>
    split
    next =>
      have hresend := RetChange.resend (window := s.params.returnWindow.toNat) position s.framer.acceptedCount e he
      simp only [List.length_set]
      exact (Relation.ReflTransGen.single (.ret _ hresend)).tail (.counters _)
    next => exact .refl

omit hframer hrewriting in
theorem changes_serveOffer (cls : OfferClass) (s : State) : Changes allowed s (serveOffer cls s).1 := by
  unfold serveOffer
  split
  next position _ => exact changes_resendAt cls position s
  next => exact changes_sendNew cls s

theorem changes_offerAction (cls : OfferClass) (n : Nat) (sl : Slot) (s : State) :
    Changes allowed s (offerAction cls n sl s) := by
  have hserve := changes_serveOffer (allowed := allowed) cls s
  unfold offerAction
  split
  next => exact .refl
  next =>
    split
    next t words h =>
      rw [h] at hserve
      exact (hserve.tail (.engine _)).trans (changes_leaveAs hframer hrewriting _ _ _ _)
    next t h =>
      rw [h] at hserve
      exact hserve

theorem changes_manageAction (release : Bool) (n : Nat) (sl : Slot) (s : State) :
    Changes allowed s (manageAction release n sl s) := by
  unfold manageAction
  split
  next =>
    split
    next => exact .refl
    next =>
      dsimp only
      split
      next => exact Relation.ReflTransGen.head (.engine _) (changes_leaveAs hframer hrewriting _ _ _ _)
      next => exact .single (.engine _)
  next => exact .refl

theorem changes_actOnSlot (e : Entry) (n : Nat) (sl : Slot) (s : State) :
    Changes allowed s (actOnSlot e n sl s) := by
  cases e with
  | pass => exact .refl
  | take word release => exact changes_takeAction hframer hrewriting word release n sl s
  | fill word src => exact changes_fillAction hframer hrewriting word src n sl s
  | offer cls => exact changes_offerAction hframer hrewriting cls n sl s
  | manage release => exact changes_manageAction hframer hrewriting release n sl s

omit hframer hrewriting in
theorem changes_flagDamaged (s : State) : Changes allowed s (flagDamaged s) :=
  Relation.ReflTransGen.head (.flag _) (.single (.counters _))

theorem changes_decideSlot (c : Cycle) (n : Nat) (s : State) : Changes allowed s (decideSlot c n s) := by
  unfold decideSlot
  split
  next => exact changes_flagDamaged s
  next sl _ =>
    split
    next => exact changes_actOnSlot hframer hrewriting _ n sl s
    next => exact .refl

theorem changes_endCycle (s : State) : Changes allowed s (endCycle s) := by
  unfold endCycle
  split
  next c _ =>
    exact Relation.ReflTransGen.head
      (.rewrite _ hrewriting (map_arrived_adjustTrailer c.net s.fwd) (adjustTrailer_tx c.net s.fwd))
      (.single (.framer _ hframer))
  next => exact .refl

theorem changes_acceptedItem (c : Cycle) (item : Item) (s : State) :
    Changes allowed s (acceptedItem c item s) := by
  have hcount : Changes allowed s (setFlagIf (item == .marker) .strayMarker
      (s.putFramer { s.framer with cycle := some (advanceCycle item c) })) :=
    Relation.ReflTransGen.head (.framer _ hframer) (changes_setFlagIf _ _ _)
  have hspoil {t : State} (ht : Changes allowed s t) :
      Changes allowed s (if spoils item (advanceCycle item c) then spoilCycle (advanceCycle item c) t else t) := by
    split
    next => exact ht.trans (changes_spoilCycle hframer _ t)
    next => exact ht
  unfold acceptedItem
  dsimp only
  split
  next =>
    split
    next => exact (hspoil hcount).trans (changes_decideSlot hframer hrewriting _ _ _)
    next => exact hspoil hcount
  next => exact (hspoil hcount).trans (changes_endCycle hframer hrewriting _)

end Slots

/-! ## Items -/

/-- The framer's taking of an item; only an item of an accepted cycle reaches the delay line. -/
theorem changes_frameItem (hframer : allowed .framer) (item : Item) {s : State}
    (hrewriting : ∀ c, s.framer.judging = none → s.framer.cycle = some c → c.accepted = true → allowed .rewriting) :
    Changes allowed s (frameItem item s) := by
  unfold frameItem
  split
  next j _ => exact changes_headerItem hframer j item s
  next c hj hc =>
    unfold cycleItem
    split
    next => exact changes_candidateItem hframer c item s
    next hacc =>
      have hline := hrewriting c hj hc (by simpa using hacc)
      split
      next =>
        refine Relation.ReflTransGen.trans ?_ (.single (.framer _ hframer))
        unfold cutShort
        split
        next => exact changes_flagDamaged s
        next => exact .refl
      next => exact changes_acceptedItem hframer hline c item s
  next => exact changes_gapItem hframer item s

/-- What falls amid a work does not move the framer. -/
theorem Change.framer_eq (hf : ¬ allowed .framer) (hw : ¬ allowed .hardware) {s t : State} (h : Change allowed s t) :
    t.framer = s.framer := by
  cases h with
  | powerUp a | assert a | release _ a => exact absurd a hw
  | framer _ a => exact absurd a hf
  | store p v a _ _ _ => cases p <;> first | rfl | contradiction
  | stationReset dest tag a => cases dest <;> rfl
  | _ => rfl

theorem takeAmids_framer (as : List Amid) (s : State) : (takeAmids as s).framer = s.framer :=
  Changes.same (Change.framer_eq (by simp) (by simp)) (changes_takeAmids (allowed := fun o => o = .pin) rfl as s)

theorem changes_frameAmid (hpin : allowed .pin) (hframer : allowed .framer) (amid : List (List Amid)) (item : Item)
    {s : State}
    (hrewriting : ∀ c, s.framer.judging = none → s.framer.cycle = some c → c.accepted = true → allowed .rewriting) :
    Changes allowed s (frameAmid amid item s) := by
  unfold frameAmid
  dsimp only
  split
  next => exact (changes_frameItem hframer item hrewriting).trans (changes_settle hpin hframer amid _ _)
  next =>
    have hbefore := changes_takeAmids hpin (amid.headD []) s
    have hitem : Changes allowed (takeAmids (amid.headD []) s) (frameItem item (takeAmids (amid.headD []) s)) :=
      changes_frameItem hframer item (by rw [takeAmids_framer]; exact hrewriting)
    exact (hbefore.trans hitem).trans (changes_takeAmids hpin _ _)

/-! ## Commands -/

theorem changes_storePolarity (hw : allowed (.command .writeParam)) {v : Word} (hv : v.toNat ≤ 1) (s : State) :
    Changes allowed s (storePolarity v s) := by
  have hput : Changes allowed s (s.putParams { s.params with guardPolarity := v }) := .single (.polarity v hw hv)
  unfold storePolarity
  dsimp only
  split
  next => exact hput.trans (changes_trip .line _)
  next => exact hput

theorem changes_storeParam (hw : allowed (.command .writeParam)) {p : Param} {v : Word} {s : State}
    (hv : paramAdmits p v = true) (hr : writeRefusal p v s = none) : Changes allowed s (storeParam p v s) := by
  by_cases hp : p = .guardPolarity
  · subst hp
    exact changes_storePolarity hw (of_decide_eq_true hv) s
  · exact .single (.store p v hw hp hv hr)

theorem changes_effectWriteParam (hw : allowed (.command .writeParam)) (c : Call) (s : State) :
    Changes allowed s (effectWriteParam c s).state := by
  unfold effectWriteParam
  split
  next =>
    split
    next => exact .refl
    next p _ =>
      dsimp only
      split
      next => exact .refl
      next =>
        split
        next hv =>
          split
          next => exact .refl
          next hr => exact changes_storeParam hw hv hr
        next => exact .refl
  next => exact .refl

theorem changes_effectGuardClear (hk : allowed (.command .guardClear)) (c : Call) (s : State) :
    Changes allowed s (effectGuardClear c s).state := by
  unfold effectGuardClear
  dsimp only
  split
  next =>
    split
    next => exact .refl
    next =>
      split
      next => exact Relation.ReflTransGen.head (.guardClear hk) (changes_queueAlert _ _)
      next => exact .refl
  next => exact .refl

theorem changes_acknowledgeSeq (seq : Byte) (s : State) : Changes allowed s (acknowledgeSeq seq s) := by
  unfold acknowledgeSeq
  split
  next n _ => exact .single (.ret _ (.acknowledge n))
  next => exact .single (.flag _)

/-- What a kind does once it is executed. -/
theorem changes_effectOf {kind : CommandKind} (hk : allowed (.command kind)) (c : Call) (s : State) :
    Changes allowed s (effectOf kind c s).state := by
  cases kind with
  | echo =>
    simp only [effectOf, effectEcho]
    split <;> exact .refl
  | readParam =>
    simp only [effectOf, effectReadParam]
    split
    next => split <;> exact .refl
    next => exact .refl
  | writeParam => exact changes_effectWriteParam hk c s
  | readEntry =>
    simp only [effectOf, effectReadEntry]
    split
    next => split <;> exact .refl
    next => exact .refl
  | writeEntry =>
    simp only [effectOf, effectWriteEntry]
    split
    next => exact .refl
    next =>
      split
      next => exact .refl
      next => exact .single (.plan _)
  | copyActive =>
    simp only [effectOf, effectCopyActive]
    split
    next =>
      split
      next => exact .refl
      next => exact .single (.plan _)
    next => exact .refl
  | commit =>
    simp only [effectOf, effectCommit]
    split
    next =>
      split
      next => exact .refl
      next =>
        split
        next => exact .single (.plan _)
        next => exact .refl
    next => exact .refl
  | cancelCommit =>
    simp only [effectOf, effectCancelCommit]
    split
    next =>
      split
      next => exact .single (.plan _)
      next => exact .refl
    next => exact .refl
  | readStatus =>
    simp only [effectOf, effectReadStatus]
    split <;> exact .refl
  | clearStatus =>
    simp only [effectOf, effectClearStatus]
    split
    next => exact .single (.clear _ hk)
    next => exact .refl
  | readCounters =>
    simp only [effectOf, effectReadCounters]
    split <;> exact .refl
  | clearCounters =>
    simp only [effectOf, effectClearCounters]
    split
    next => exact .single (.counters _)
    next => exact .refl
  | acknowledge =>
    simp only [effectOf, effectAcknowledge]
    split
    next => exact changes_acknowledgeSeq _ s
    next => exact .refl
  | guardTrip =>
    simp only [effectOf, effectGuardTrip]
    split
    next => exact changes_trip .command s
    next => exact .refl
  | guardClear => exact changes_effectGuardClear hk c s
  | resetStation => exact .refl
  | unknown => exact .refl

theorem queueAlert_replies (a : Alert) (s : State) : (queueAlert a s).ret.replies = s.ret.replies := by
  unfold queueAlert
  split <;> rfl

theorem trip_replies (c : Cause) (s : State) : (trip c s).ret.replies = s.ret.replies := by
  unfold trip
  split
  next => exact queueAlert_replies _ _
  next => rfl

theorem storeParam_replies (p : Param) (v : Word) (s : State) : (storeParam p v s).ret.replies = s.ret.replies := by
  cases p with
  | guardPolarity =>
    simp only [storeParam, storePolarity]
    split
    next => exact trip_replies _ _
    next => rfl
  | _ => rfl

/-- No effect but RESET-STATION's touches the reply queue, so that a reply that had a place still has it (R158). -/
theorem effectOf_replies (kind : CommandKind) (c : Call) (s : State) :
    (effectOf kind c s).state.ret.replies = s.ret.replies := by
  cases kind with
  | writeParam =>
    simp only [effectOf, effectWriteParam]
    repeat' split
    all_goals first | rfl | exact storeParam_replies _ _ _
  | guardTrip =>
    simp only [effectOf, effectGuardTrip]
    split
    next => exact trip_replies _ _
    next => rfl
  | guardClear =>
    simp only [effectOf, effectGuardClear]
    repeat' split
    all_goals first | rfl | exact queueAlert_replies _ _
  | acknowledge =>
    simp only [effectOf, effectAcknowledge, acknowledgeSeq]
    repeat' split
    all_goals rfl
  | _ =>
    simp only [effectOf, effectEcho, effectReadParam, effectReadEntry, effectWriteEntry, effectCopyActive, effectCommit,
      effectCancelCommit, effectReadStatus, effectClearStatus, effectReadCounters, effectClearCounters, effectUnknown]
    repeat' split
    all_goals rfl

theorem changes_countResult (r : Result) (s : State) : Changes allowed s (countResult r s) := by
  unfold countResult
  split
  next => exact .refl
  next => exact .single (.counters _)

theorem changes_finishSingle (code tag : Byte) {e : Effect} (h : e.state.ret.replies.length < 8) :
    Changes allowed e.state (finishSingle code tag e) := by
  have hreply (x : Reply) : Changes allowed e.state (queueReply x e.state) := .single (.ret _ (.reply x h))
  have hremember (x : Reply) (s : State) : Changes allowed s (rememberSingle x.tag x s) := by
    unfold rememberSingle
    split
    next => exact .refl
    next htag => exact .single (.rememberSingle x htag)
  exact ((hreply _).trans (hremember ⟨tag, code, e.result, e.d0, e.d1, e.d2⟩ _)).trans (changes_countResult _ _)

theorem changes_finishGroup (tag : Byte) (e : Effect) : Changes allowed e.state (finishGroup tag e) := by
  refine Relation.ReflTransGen.trans ?_ (changes_countResult _ _)
  unfold rememberGroup
  split
  next => exact .refl
  next => exact .single (.rememberGroup tag)

theorem kindOf_of_isReset {k : CommandKind} {c : Call} (h : isReset k c = true) : k = .resetStation := by
  simp only [isReset, Bool.and_eq_true, beq_iff_eq] at h
  exact h.1

/-- A single-destination command other than ACKNOWLEDGE that executes has its reply place (R158). -/
theorem replyRoom_of_executed {code : Byte} {c : Call} {s : State} (hd : c.dest = .single)
    (hack : kindOf code ≠ .acknowledge) (h : judgeCommand code c s = .executed) : s.ret.replies.length < 8 := by
  simp only [judgeCommand, hd, if_neg hack] at h
  split at h
  next => cases h
  next =>
    split at h
    next hroom => exact of_decide_eq_true hroom
    next => cases h

theorem changes_executeCommand {code : Byte} (hk : allowed (.command (kindOf code))) {c : Call} {s : State}
    (h : judgeCommand code c s = .executed) : Changes allowed s (executeCommand code c s) := by
  have heffect := changes_effectOf hk c s
  unfold executeCommand
  split
  next hreset => exact .single (.stationReset _ _ (kindOf_of_isReset hreset ▸ hk))
  next =>
    dsimp only
    split
    next hd =>
      split
      next => exact heffect.trans (changes_countResult _ _)
      next hack =>
        refine heffect.trans (changes_finishSingle code c.tag ?_)
        rw [effectOf_replies]
        exact replyRoom_of_executed hd hack h
    next => exact heffect.trans (changes_finishGroup _ _)
    next => exact heffect.trans (changes_finishGroup _ _)

theorem changes_repeatReply (s : State) : Changes allowed s (repeatReply s) := by
  have hflag : Changes allowed s (setFlag .duplicate s) := .single (.flag _)
  unfold repeatReply
  dsimp only
  split
  next hroom =>
    split
    next r _ => exact hflag.tail (.ret _ (.reply r (of_decide_eq_true hroom)))
    next => exact hflag
  next => exact hflag.tail (.flag _)

/-- The agent's taking of one command: brought about by that command's kind alone (R154). -/
theorem changes_takeCommand {code : Byte} (hk : allowed (.command (kindOf code))) (c : Call) (s : State) :
    Changes allowed s (takeCommand code c s) := by
  unfold takeCommand
  split
  next => exact Relation.ReflTransGen.head (.flag _) (.single (.counters _))
  next => exact changes_repeatReply s
  next => exact .single (.flag _)
  next => exact .single (.flag _)
  next h => exact changes_executeCommand hk h

theorem changes_runHeld (hpin : allowed .pin) {es : List HeldEntry} (hes : ∀ e ∈ es, allowed (.command (kindOf e.code)))
    (amid : List (List Amid)) (s : State) : Changes allowed s (runHeld es amid s) := by
  induction es generalizing amid s with
  | nil => exact changes_takeAmids hpin _ s
  | cons e es ih =>
    have hfirst : Changes allowed s (takeCommand e.code e.call (takeAmids (amid.headD []) s)) :=
      (changes_takeAmids hpin _ s).trans (changes_takeCommand (hes e (by simp)) _ _)
    unfold runHeld
    dsimp only
    split
    next => exact hfirst.trans (changes_takeAmids hpin _ _)
    next => exact hfirst.trans (ih (fun x hx => hes x (by simp [hx])) amid.tail _)

theorem changes_completeCycle (hpin : allowed .pin) (hframer : allowed .framer) {s : State}
    (hheld : ∀ e ∈ s.engine.held, allowed (.command (kindOf e.code))) (amid : List (List Amid)) :
    Changes allowed s (completeCycle amid s) :=
  Relation.ReflTransGen.head (.framer _ hframer) <| (changes_makeReady _).trans <|
    (changes_runHeld hpin hheld amid _).tail (.engine _)

/-! ## An item -/

/-- An item of an accepted cycle is taken as such, but for a MARKER in HUNT (R30, R32). -/
theorem frameItem_accepted {c : Cycle} {item : Item} {s : State} (hj : s.framer.judging = none)
    (hc : s.framer.cycle = some c) (hacc : c.accepted = true)
    (hm : ¬ (item = .marker ∧ s.framer.acquisition = .hunt)) : frameItem item s = acceptedItem c item s := by
  simp only [frameItem, hj, hc, cycleItem, hacc, if_neg hm, Bool.not_true, Bool.false_eq_true, if_false]

theorem isCheckPos_trailer {c : Cycle} (h : c.pos + 1 = trailerPos c) : isCheckPos c (c.pos + 1) = false := by
  simp [isCheckPos, h]

theorem advanceCycle_plain {c : Cycle} {item : Item} (h : isCheckPos c (c.pos + 1) = false) :
    advanceCycle item c = { c with pos := c.pos + 1 } := by
  simp only [advanceCycle, h, Bool.false_eq_true, if_false]

theorem endCycle_of_cycle {c : Cycle} {s : State} (h : s.framer.cycle = some c) :
    endCycle s = (s.putFwd (adjustTrailer c.net s.fwd)).putFramer { s.framer with cycle := none } := by
  simp only [endCycle, h]

/-- At the trailer position an accepted cycle ends, spoiled by an item that does not check (R30, R32, R73). -/
theorem acceptedItem_trailer {c d : Cycle} {item : Item} (s : State) (h : c.pos + 1 = trailerPos c)
    (hd : d = { c with pos := c.pos + 1 }) :
    acceptedItem c item s =
      let t := setFlagIf (item == .marker) .strayMarker (s.putFramer { s.framer with cycle := some d })
      endCycle (if spoils item d then spoilCycle d t else t) := by
  have hend : ¬ d.pos < trailerPos d := by
    subst hd
    exact Nat.not_lt.mpr (Nat.le_of_eq h.symm)
  rw [acceptedItem, advanceCycle_plain (isCheckPos_trailer h), ← hd]
  simp only [if_neg hend]

/-- The item that completes a cycle checks at the trailer position of the running accepted cycle (R31). -/
theorem completes_iff {item : Item} {s : State} : completes item s = true ↔
    ∃ c, s.framer.judging = none ∧ s.framer.cycle = some c ∧ c.accepted = true ∧ c.status = .running ∧
      c.pos + 1 = trailerPos c ∧ item = .word c.sum ∧ c.checkFault = false := by
  unfold completes
  split
  next c hj hc =>
    simp only [Bool.and_eq_true, beq_iff_eq, hj, hc, Option.some.injEq, true_and, exists_eq_left', and_assoc]
    refine and_congr_right fun _ => and_congr_right fun _ => and_congr_right fun hpos => ?_
    rw [advanceCycle_plain (isCheckPos_trailer hpos)]
    simp [trailerChecks]
  next hno =>
    simp only [Bool.false_eq_true, false_iff]
    rintro ⟨c, hj, hc, -⟩
    exact hno c hj hc

/-- The item that completes a cycle, taken by the framer: the cycle ends and its trailer leaves adjusted (R31, R73). -/
theorem frameItem_of_completes {item : Item} {s : State} (h : completes item s = true) :
    ∃ c, s.framer.judging = none ∧ s.framer.cycle = some c ∧ c.accepted = true ∧
      frameItem item s = (s.putFwd (adjustTrailer c.net s.fwd)).putFramer { s.framer with cycle := none } := by
  obtain ⟨c, hj, hc, hacc, hrun, hpos, rfl, hcheck⟩ := completes_iff.mp h
  refine ⟨c, hj, hc, hacc, ?_⟩
  generalize hd : ({ c with pos := c.pos + 1 } : Cycle) = d
  have hspoils : spoils (.word c.sum) d = false := by
    subst hd
    simp [spoils, trailerChecks, hcheck]
  have hnet : d.net = c.net := by rw [← hd]
  rw [frameItem_accepted hj hc hacc (by simp), acceptedItem_trailer s hpos hd.symm, hspoils]
  dsimp only [Bool.false_eq_true, if_false]
  rw [if_neg Bool.false_ne_true, endCycle_of_cycle (c := d) rfl, hnet]
  rfl

/-- What one item may bring about: nothing in the delay line but for an item of an accepted cycle, and of the command kinds
those that stand in the held list. -/
structure ItemOrigins (allowed : Origin → Prop) (s : State) : Prop where
  pin : allowed .pin
  framer : allowed .framer
  rewriting : ∀ c, s.framer.judging = none → s.framer.cycle = some c → c.accepted = true → allowed .rewriting
  held : ∀ e ∈ s.engine.held, allowed (.command (kindOf e.code))

theorem changes_takenItem (amid : List (List Amid)) (item : Item) {s : State} (h : ItemOrigins allowed s) :
    Changes allowed s
      (if completes item s then completeCycle amid (frameItem item s) else frameAmid amid item s) := by
  split
  next hc =>
    obtain ⟨c, -, -, -, heq⟩ := frameItem_of_completes hc
    refine (changes_frameItem h.framer item h.rewriting).trans (changes_completeCycle h.pin h.framer ?_ amid)
    rw [heq]
    exact h.held
  next => exact changes_frameAmid h.pin h.framer amid item h.rewriting

/-- The shift of an item through the delay line and the clock, before the framer looks at it. -/
theorem changes_afterItem (hpin : allowed .pin) (hframer : allowed .framer) (hshift : allowed .shift) (item : Item)
    (inputs : Byte) (s : State) : Changes allowed s (afterItem item inputs s) := by
  have heq : afterItem item inputs s =
      setFlagIf (item == .fault) .wordFault (carryItem item (s.putPins { s.pins with inputs := inputs })) := by
    cases item <;> rfl
  rw [heq]
  exact Relation.ReflTransGen.head (.pins { s.pins with inputs := inputs } hpin rfl) <|
    Relation.ReflTransGen.head (.shift item hshift) <|
    Relation.ReflTransGen.head (.framer _ hframer) (changes_setFlagIf _ _ _)

theorem itemOrigins_afterItem {s : State} (h : ItemOrigins allowed s) (item : Item) (inputs : Byte) :
    ItemOrigins allowed (afterItem item inputs s) :=
  ⟨h.pin, h.framer, h.rewriting, h.held⟩

theorem changes_takeItem (hshift : allowed .shift) (item : Item) (inputs : Byte) (amid : List (List Amid)) {s : State}
    (h : ItemOrigins allowed s) : Changes allowed s (takeItem item inputs amid s) := by
  by_cases hr : s.inReset = true
  · have heq : takeItem item inputs amid s = takeAmids amid.flatten
        ((s.putPins { s.pins with inputs := inputs }).putFwd (forwardItem item s.fwd)) := if_pos hr
    rw [heq]
    exact Relation.ReflTransGen.head (.pins { s.pins with inputs := inputs } h.pin rfl) <|
      Relation.ReflTransGen.head (.shift item hshift) <|
      changes_takeAmids h.pin _ _
  · rw [takeItem_running item inputs amid s (by simpa using hr)]
    exact (changes_afterItem h.pin h.framer hshift item inputs s).trans
      (changes_takenItem amid item (itemOrigins_afterItem h item inputs))

theorem changes_laterFault (hpin : allowed .pin) (hframer : allowed .framer) (hshift : allowed .shift)
    (hrewriting : allowed .rewriting) (s : State) : Changes allowed s (laterFault s) := by
  unfold laterFault
  split
  next => exact .single (.shift _ hshift)
  next =>
    exact Relation.ReflTransGen.head (.shift _ hshift) <| Relation.ReflTransGen.head (.framer _ hframer) <|
      changes_frameAmid hpin hframer [] .fault (fun _ _ _ _ => hrewriting)

theorem changes_laterFaults (hpin : allowed .pin) (hframer : allowed .framer) (hshift : allowed .shift)
    (hrewriting : allowed .rewriting) (n : Nat) (s : State) : Changes allowed s (laterFaults n s) := by
  induction n generalizing s with
  | zero => exact .refl
  | succ n ih => exact (changes_laterFault hpin hframer hshift hrewriting s).trans (ih _)

/-! ## The rows -/

/-- What can bring a change about under an event row, on a state. -/
def eventOrigins (i : Instr) (s : State) (o : Origin) : Prop :=
  match i with
  | .powerUp | .resetPinAsserted | .hardwareReset _ => o = .hardware
  | .itemReceived _ _ _ => o = .pin ∨ o = .framer ∨ o = .shift ∨ o = .rewriting ∨
      ∃ e ∈ s.engine.held, o = .command (kindOf e.code)
  | .cycleCompleted _ => o = .pin ∨ o = .framer ∨ ∃ e ∈ s.engine.held, o = .command (kindOf e.code)
  | .cycleMissed => o = .pin ∨ o = .framer
  | .guardPinActive | .guardPinInactive => o = .pin
  | .recordSent | .recordResent => o = .framer ∨ o = .rewriting
  | _ => False

/-- What can bring a change about under a row, on a state: under a command row its kind alone. -/
def origins (i : Instr) (s : State) (o : Origin) : Prop :=
  match commandRecord i with
  | some (code, _) => o = .command (kindOf code)
  | none => eventOrigins i s o

theorem changes_commandRow {i : Instr} {code : Byte} {c : Call} (h : commandRecord i = some (code, c)) (s : State) :
    ∃ t, exec i s = .next t ∧ Changes (fun o => o = .command (kindOf code)) s t := by
  refine ⟨_, exec_commandRecord h s, ?_⟩
  split
  next => exact changes_takeCommand (allowed := fun o => o = .command (kindOf code)) rfl c s
  next => exact .refl

theorem changes_itemRow (item : Item) (inputs : Byte) (amid : List (List Amid)) (s : State) :
    Changes (origins (.itemReceived item inputs amid) s) s (receiveItem item inputs amid s) := by
  have h : ItemOrigins (origins (.itemReceived item inputs amid) s) s :=
    ⟨.inl rfl, .inr (.inl rfl), fun _ _ _ _ => .inr (.inr (.inr (.inl rfl))),
      fun e he => .inr (.inr (.inr (.inr ⟨e, he, rfl⟩)))⟩
  have hshift : origins (.itemReceived item inputs amid) s .shift := .inr (.inr (.inl rfl))
  exact (changes_takeItem hshift item inputs amid h).trans
    (changes_laterFaults h.pin h.framer hshift (.inr (.inr (.inr (.inl rfl)))) _ _)

theorem changes_completedRow (amid : List (List Amid)) (s : State) :
    ∃ t, exec (.cycleCompleted amid) s = .next t ∧ Changes (origins (.cycleCompleted amid) s) s t := by
  show ∃ t, execCycleCompleted amid s = .next t ∧ _
  unfold execCycleCompleted
  split
  next c _ =>
    split
    next =>
      exact ⟨_, rfl, Relation.ReflTransGen.head (.framer _ (.inr (.inl rfl))) <|
        changes_completeCycle (.inl rfl) (.inr (.inl rfl)) (fun e he => .inr (.inr ⟨e, he, rfl⟩)) amid⟩
    next => exact ⟨s, rfl, .refl⟩
  next => exact ⟨s, rfl, .refl⟩

theorem changes_recordRow (i : Instr) (hi : i = .recordSent ∨ i = .recordResent) (s : State) :
    ∃ t, exec i s = .next t ∧ Changes (origins i s) s t := by
  have hoffer (cls : OfferClass) (n : Nat) (sl : Slot) (b : Bool) :
      Changes (fun o => o = .framer ∨ o = .rewriting) s (if b then offerAction cls n sl s else s) := by
    split
    next => exact changes_offerAction (.inl rfl) (.inr rfl) cls n sl s
    next => exact .refl
  obtain rfl | rfl := hi
  · show ∃ t, execRecordSent s = .next t ∧ _
    unfold execRecordSent
    split
    next n sl cls _ => exact ⟨_, rfl, hoffer cls n sl _⟩
    next => exact ⟨s, rfl, .refl⟩
  · show ∃ t, execRecordResent s = .next t ∧ _
    unfold execRecordResent
    split
    next n sl cls _ => exact ⟨_, rfl, hoffer cls n sl _⟩
    next => exact ⟨s, rfl, .refl⟩

/-- Every row answers a next state, which a chain of changes reaches that the row's own origins bring about. -/
theorem exec_changes (i : Instr) (s : State) : ∃ t, exec i s = .next t ∧ Changes (origins i s) s t := by
  have hwhere {o : Origin → Prop} (b : Bool) {t : State} (h : Changes o s t) : Changes o s (if b then t else s) := by
    split
    next => exact h
    next => exact .refl
  cases hi : commandRecord i with
  | some record =>
    obtain ⟨t, ht, hc⟩ := changes_commandRow hi s
    exact ⟨t, ht, hc.mono fun o ho => by rw [origins, hi]; exact ho⟩
  | none =>
    cases i with
    | powerUp => exact ⟨_, rfl, .single (.powerUp rfl)⟩
    | resetPinAsserted => exact ⟨_, rfl, .single (.assert rfl)⟩
    | hardwareReset straps =>
      refine ⟨_, rfl, Relation.ReflTransGen.tail ?_ (.release straps rfl)⟩
      split
      next => exact .refl
      next => exact .single (.assert rfl)
    | itemReceived item inputs amid => exact ⟨_, rfl, changes_itemRow item inputs amid s⟩
    | cycleCompleted amid => exact changes_completedRow amid s
    | cycleMissed =>
      exact ⟨_, rfl, hwhere _ ((changes_missCycle (.inr rfl) s).trans (changes_settle (.inl rfl) (.inr rfl) [] _ _))⟩
    | planSwap number => exact ⟨_, rfl, hwhere _ ((changes_commitTest number s).trans (changes_queueAll _ _))⟩
    | applyInstant => exact ⟨_, rfl, hwhere _ (changes_applyInstant s)⟩
    | guardPinActive => exact ⟨_, rfl, changes_setGuardPin (allowed := fun o => o = .pin) rfl _ s⟩
    | guardPinInactive => exact ⟨_, rfl, changes_setGuardPin (allowed := fun o => o = .pin) rfl _ s⟩
    | recordSent => exact changes_recordRow _ (.inl rfl) s
    | recordResent => exact changes_recordRow _ (.inr rfl) s
    | retryExpiry => exact ⟨_, rfl, hwhere _ ((changes_retryTest s).trans (changes_queueAll _ _))⟩
    | _ => cases hi

theorem changes_of_exec {i : Instr} {s t : State} (h : exec i s = .next t) : Changes (origins i s) s t := by
  obtain ⟨u, hu, hc⟩ := exec_changes i s
  cases h.symm.trans hu
  exact hc

/-- A law that every change keeps is kept by every step. -/
theorem step_keeps {P : State → Prop} (hqueue : ∀ s rest, P s → P (s.putPending rest))
    (hkeep : ∀ {s t}, Change (fun _ => True) s t → P s → P t) {s t : State} (h : step s = .next t) (hs : P s) : P t := by
  unfold step at h
  split at h
  next => cases h; exact hs
  next i rest _ =>
    exact ((changes_of_exec h).mono fun _ _ => trivial).keeps hkeep (hqueue s rest hs)

end Sys2Proof.Machine
end

section
/-! PROOFS. The laws every step keeps (R1, R2, R83, R88, R97, R114, R124 to R133, R153, R174, R178), each proved change by
change: the guard's, the in-flight list's, the queues', the tag memory's, the parameters' and the channels'. -/

namespace Sys2Proof.Machine

open Sys2Proof.Safety

variable {allowed : Origin → Prop} {s t : State}

/-! ## What a change of the parameters and a station reset leave alone -/

/-- A parameter's write reaches the parameters and the channels (R164). -/
theorem storeParam_only {p : Param} (hp : p ≠ .guardPolarity) (v : Word) (s : State) :
    storeParam p v s =
      { s with params := (storeParam p v s).params, channels := (storeParam p v s).channels } := by
  cases p with
  | guardPolarity => exact absurd rfl hp
  | _ => rfl

/-- A station reset that executes leaves the ring's side of the station alone (R169). -/
theorem executeReset_only (dest : DestType) (tag : Byte) (s : State) :
    executeReset dest tag s =
      { stationReset s with
        ret := (executeReset dest tag s).ret
        agent := { (executeReset dest tag s).agent with address := s.agent.address } } := by
  cases dest <;> rfl

/-! ## The queue of commands -/

theorem Change.pending_eq (h : Change allowed s t) : t.pending = s.pending := by
  cases h with
  | store p v _ hp _ _ => rw [storeParam_only hp]
  | stationReset dest tag _ => rw [executeReset_only]; rfl
  | _ => rfl

/-- Settles O2: no change reaches the queue, and every row answers a next state. -/
theorem everyCommandCompletesAndKeepsTheQueue : Obligations.EveryCommandCompletesAndKeepsTheQueue := by
  intro i s
  obtain ⟨t, ht, hc⟩ := exec_changes i s
  exact ⟨t, ht, hc.same Change.pending_eq⟩

/-! ## The guard (R83, R88, R97, R114) -/

/-- The guard's law reads the guard and the channels' guard modes and HELD. -/
theorem guardLaw_of_same (h : GuardLaw s) (hg : t.guard = s.guard)
    (hm : ∀ i : Fin 8, t.channels[i].guardMode = s.channels[i].guardMode)
    (hh : ∀ i : Fin 8, t.channels[i].held = s.channels[i].held) : GuardLaw t where
  heldHasMode i := by rw [hm, hh]; exact h.heldHasMode i
  trippedHolds := by rw [hg]; exact fun ht i => by rw [hm, hh]; exact h.trippedHolds ht i
  causes := by rw [hg]; exact h.causes

/-- A trip record with its one cause, and channels in their reset state (R80, R107, R108). -/
theorem guardLaw_reset (hc : t.channels = channelsReset) (hs : t.guard.state = .tripped) (hn : t.guard.causes ≠ 0) :
    GuardLaw t where
  heldHasMode i := by simp [hc, channelsReset, channelReset]
  trippedHolds _ i := by simp [hc, channelsReset, channelReset]
  causes := ⟨fun hnormal => (by cases hs.symm.trans hnormal), fun hempty => absurd hempty hn⟩

theorem guardLaw_trip (c : Cause) (h : GuardLaw s) :
    GuardLaw ((s.putGuard ⟨.tripped, causeAlone c, lastNumber s, c⟩).putChannels (holdChannels s.channels)) where
  heldHasMode i := by
    simp only [State.putChannels_channels, holdChannels_eq, Fin.getElem_fin, Vector.getElem_ofFn]
    intro hh hm
    have hold : s.channels[i].held = false := by
      by_contra hheld
      exact h.heldHasMode i (by simpa using hheld) hm
    rw [Fin.getElem_fin] at hold
    simp [hold, hm] at hh
  trippedHolds _ i := by
    simp only [State.putChannels_channels, holdChannels_eq, Fin.getElem_fin, Vector.getElem_ofFn]
    intro hm
    simp [hm]
  causes := by cases c <;> simp [causeAlone, causePlace]

theorem guardLaw_channels {v : Vector Channel 8} (hv : ∀ i : Fin 8, ChannelKept s.guard.state s.channels[i] v[i])
    (h : GuardLaw s) : GuardLaw (s.putChannels v) where
  heldHasMode i := by
    show v[i].held = true → v[i].guardMode ≠ .none
    intro hh
    rw [(hv i).guardMode]
    obtain hsame | ⟨-, hfree⟩ := (hv i).held
    · exact h.heldHasMode i (hsame ▸ hh)
    · rw [hfree] at hh
      cases hh
  trippedHolds ht i := by
    show v[i].guardMode ≠ .none → v[i].held = true
    intro hm
    obtain hsame | ⟨hn, -⟩ := (hv i).held
    · rw [hsame]
      exact h.trippedHolds ht i ((hv i).guardMode ▸ hm)
    · cases ht.symm.trans hn
  causes := h.causes

theorem getElem_set_channel (cs : Vector Channel 8) (ch i : Fin 8) (c : Channel) :
    (cs.set ch.val c ch.isLt)[i] = if i = ch then c else cs[i] := by
  simp only [Fin.getElem_fin, Vector.getElem_set]
  exact if_congr (by rw [Fin.ext_iff, eq_comm]) rfl rfl

/-- A channel whose guard mode is written is not held, and the guard is not TRIPPED (R83). -/
theorem guardLaw_storeGuardMode {ch : Fin 8} {v : Word} (hr : writeRefusal (.guardMode ch) v s = none)
    (h : GuardLaw s) : GuardLaw (storeGuardMode ch v s) := by
  have hfree : ¬ (s.guard.state = .tripped ∨ s.channels[ch].held = true) := by
    intro hlocked
    have hlock : writeRefusal (.guardMode ch) v s = some .locked := if_pos hlocked
    cases hlock.symm.trans hr
  have hchannels (i : Fin 8) : (storeGuardMode ch v s).channels[i] =
      if i = ch then { s.channels[ch] with guardMode := guardModeOf v } else s.channels[i] :=
    getElem_set_channel _ _ _ _
  refine ⟨fun i hh => ?_, fun ht => absurd (.inl ht) hfree, h.causes⟩
  rw [hchannels] at hh ⊢
  split at hh
  next => exact absurd (.inr hh) hfree
  next hi => rw [if_neg hi]; exact h.heldHasMode i hh

theorem guardLaw_store {p : Param} (hp : p ≠ .guardPolarity) {v : Word} (hr : writeRefusal p v s = none)
    (h : GuardLaw s) : GuardLaw (storeParam p v s) := by
  cases p with
  | guardPolarity => exact absurd rfl hp
  | guardMode ch => exact guardLaw_storeGuardMode hr h
  | channelConfig ch =>
    have hchannels (i : Fin 8) : (storeChannelConfig ch v s).channels[i] =
        if i = ch then { s.channels[ch] with pending := some (configOf v) } else s.channels[i] :=
      getElem_set_channel _ _ _ _
    refine guardLaw_of_same h rfl (fun i => ?_) (fun i => ?_) <;>
    · rw [storeParam, hchannels]
      split
      next hi => rw [hi]
      next => rfl
  | _ => exact guardLaw_of_same h rfl (fun _ => rfl) (fun _ => rfl)

theorem Change.keeps_guardLaw (hc : Change allowed s t) (h : GuardLaw s) : GuardLaw t := by
  cases hc with
  | powerUp | assert | release => exact guardLaw_reset rfl rfl (show causeAlone .start ≠ 0 by decide)
  | channels v hv => exact guardLaw_channels hv h
  | guardTrip c _ => exact guardLaw_trip c h
  | guardCause c ht =>
    refine ⟨h.heldHasMode, h.trippedHolds, ?_⟩
    have hcause : s.guard.causes ||| causeAlone c ≠ 0 := by
      generalize s.guard.causes = k
      revert k
      cases c <;> decide
    exact ⟨fun hnormal => (by cases ht.symm.trans hnormal), fun hempty => absurd hempty hcause⟩
  | guardClear => exact ⟨h.heldHasMode, fun ht => (by cases ht), fun _ => rfl, fun _ => rfl⟩
  | store p v _ hp _ hr => exact guardLaw_store hp hr h
  | stationReset dest tag _ =>
    rw [executeReset_only]
    exact guardLaw_reset rfl rfl (show causeAlone .reset ≠ 0 by decide)
  | _ => exact guardLaw_of_same h rfl (fun _ => rfl) (fun _ => rfl)

/-- Settles O41: every change keeps the guard's law. -/
theorem everyStepKeepsGuardedChannelsHeld : Obligations.EveryStepKeepsGuardedChannelsHeld :=
  fun _ _ h hstep => step_keeps
    (fun _ _ h => guardLaw_of_same h rfl (fun _ => rfl) (fun _ => rfl)) Change.keeps_guardLaw hstep h

/-- Only an accepted GUARD-CLEAR takes the guard out of TRIPPED (R114). -/
theorem Change.keeps_tripped (hclear : ¬ allowed (.command .guardClear)) (hc : Change allowed s t)
    (h : s.guard.state = .tripped) : t.guard.state = .tripped := by
  cases hc with
  | guardClear a => exact absurd a hclear
  | store p v _ hp _ _ => rw [storeParam_only hp]; exact h
  | stationReset dest tag _ => rw [executeReset_only]; rfl
  | powerUp | assert | release | guardTrip => rfl
  | guardCause | _ => exact h

/-- The rows of a kind carry its code alone: UNKNOWN_COMMAND carries the code of no kind (R13). -/
theorem commandRecord_of_kind {i : Instr} {code : Byte} {c : Call} (hwf : WellFormed i = true)
    (h : commandRecord i = some (code, c)) :
    (kindOf code = .guardClear → i = .guardClear c) ∧ (kindOf code = .clearStatus → i = .clearStatus c) ∧
      (kindOf code = .resetStation → i = .resetStation c) := by
  cases i with
  | unknownCommand k call =>
    cases h
    rw [(kindOf_unknown code).mpr hwf]
    simp
  | _ => cases h <;> simp [kindOf]

theorem kindOf_guardClear (code : Byte) : kindOf code = .guardClear ↔ code = 0x0F := by
  revert code; decide +kernel

theorem kindOf_clearStatus (code : Byte) : kindOf code = .clearStatus ↔ code = 0x0A := by
  revert code; decide +kernel

/-- Of a kind that ends something, the row itself is an origin, or a completion with an entry of the kind held. -/
theorem origins_command {i : Instr} {k : CommandKind} (h : origins i s (.command k)) :
    (∃ code c, commandRecord i = some (code, c) ∧ k = kindOf code) ∨
      (((∃ item inputs amid, i = .itemReceived item inputs amid) ∨ ∃ amid, i = .cycleCompleted amid) ∧
        ∃ e ∈ s.engine.held, k = kindOf e.code) := by
  unfold origins at h
  split at h
  next code c hi => exact .inl ⟨code, c, hi, by simpa using h⟩
  next =>
    cases i with
    | itemReceived item inputs amid => exact .inr ⟨.inl ⟨_, _, _, rfl⟩, by simpa [eventOrigins] using h⟩
    | cycleCompleted amid => exact .inr ⟨.inr ⟨_, rfl⟩, by simpa [eventOrigins] using h⟩
    | _ => simp [eventOrigins] at h

/-- Settles O42: of the origins of a row only a GUARD-CLEAR can end TRIPPED. -/
theorem guardLeavesTrippedOnlyByAClear : Obligations.GuardLeavesTrippedOnlyByAClear := by
  intro i s t hwf hexec htripped hnormal
  have hclear : origins i s (.command .guardClear) := by
    by_contra hno
    have hstays := (changes_of_exec hexec).keeps (Change.keeps_tripped hno) htripped
    cases hstays.symm.trans hnormal
  obtain ⟨code, c, hi, hk⟩ | ⟨hrow, e, he, hk⟩ := origins_command hclear
  · exact .inl ⟨c, (commandRecord_of_kind hwf hi).1 hk.symm⟩
  · exact .inr ⟨hrow, e, he, (kindOf_guardClear e.code).mp hk.symm⟩

/-! ## The in-flight list (R133) -/

/-- The part of the in-flight law that the return path alone can break, under a window. -/
structure InFlightOrder (window : Nat) (r : ReturnPath) : Prop where
  bounded : r.inFlight.length ≤ window
  consecutive : ∀ (i : Nat) (h : i < r.inFlight.length),
    r.inFlight[i].seq = r.nextSeq - BitVec.ofNat 8 (r.inFlight.length - i)
  resends : ∀ (i : Nat) (h : i < r.inFlight.length), r.inFlight[i].resends ≤ 15
  position : ∀ p, r.resendAt = some p → p < r.inFlight.length

theorem inFlightLaw_iff (s : State) : InFlightLaw s ↔
    (1 ≤ s.params.returnWindow.toNat ∧ s.params.returnWindow.toNat ≤ 8) ∧
      InFlightOrder s.params.returnWindow.toNat s.ret :=
  ⟨fun h => ⟨h.window, h.bounded, h.consecutive, h.resends, h.position⟩,
    fun ⟨hw, h⟩ => ⟨hw, h.bounded, h.consecutive, h.resends, h.position⟩⟩

theorem inFlightOrder_nil {window : Nat} {r : ReturnPath} (h : r.inFlight = []) (hr : r.resendAt = none) :
    InFlightOrder window r :=
  ⟨by simp [h], by simp [h], by simp [h], by simp [hr]⟩

theorem inFlightOrder_of_same {window : Nat} {r r' : ReturnPath} (h : InFlightOrder window r)
    (hl : r'.inFlight = r.inFlight) (hn : r'.nextSeq = r.nextSeq) (hp : r'.resendAt = r.resendAt) :
    InFlightOrder window r' := by
  obtain ⟨hb, hc, hr, hq⟩ := h
  constructor <;> simp only [hl, hn, hp] <;> assumption

/-- A first sending takes the next number and joins at the tail (R135). -/
theorem inFlightOrder_appendSent {window : Nat} {r : ReturnPath} {e : Sent} (hroom : r.inFlight.length < window)
    (hseq : e.seq = r.nextSeq) (hres : e.resends = 0) (h : InFlightOrder window r) :
    InFlightOrder window (appendSent e r) where
  bounded := by simp [appendSent]; omega
  consecutive i hi := by
    simp only [appendSent, List.length_append, List.length_cons, List.length_nil, Nat.zero_add] at hi ⊢
    by_cases hlast : i < r.inFlight.length
    · rw [List.getElem_append_left hlast, h.consecutive i hlast]
      have hlen : r.inFlight.length + 1 - i = (r.inFlight.length - i) + 1 := by omega
      rw [hlen, BitVec.ofNat_add]
      generalize BitVec.ofNat 8 (r.inFlight.length - i) = k
      generalize r.nextSeq = n
      bv_omega
    · obtain rfl : i = r.inFlight.length := by omega
      have hlen : r.inFlight.length + 1 - r.inFlight.length = 1 := by omega
      rw [List.getElem_append_right (Nat.le_refl _), hlen]
      simp [hseq]
  resends i hi := by
    simp only [appendSent, List.length_append, List.length_cons, List.length_nil, Nat.zero_add] at hi ⊢
    by_cases hlast : i < r.inFlight.length
    · rw [List.getElem_append_left hlast]
      exact h.resends i hlast
    · obtain rfl : i = r.inFlight.length := by omega
      simp [hres]
  position p hp := by
    have := h.position p hp
    simp [appendSent]
    omega

/-- A resending keeps the numbers and lets the count stop at 15 (R136). -/
theorem inFlightOrder_resend {window : Nat} {r : ReturnPath} {position : Nat} {e : Sent} (count : Word)
    (he : r.inFlight[position]? = some e) (h : InFlightOrder window r) :
    InFlightOrder window { r with
      inFlight := r.inFlight.set position (resentEntry count e)
      resendAt := if position + 1 < r.inFlight.length then some (position + 1) else none } where
  bounded := by simpa using h.bounded
  consecutive i hi := by
    simp only [List.length_set] at hi ⊢
    rw [List.getElem_set, ← h.consecutive i hi]
    split
    next hp =>
      subst hp
      obtain ⟨_, rfl⟩ := List.getElem?_eq_some_iff.mp he
      rfl
    next => rfl
  resends i hi := by
    simp only [List.length_set] at hi ⊢
    rw [List.getElem_set]
    split
    next => exact Nat.min_le_right _ _
    next => exact h.resends i hi
  position p hp := by
    simp only [List.length_set] at hp ⊢
    split at hp
    next => cases hp; assumption
    next => cases hp

/-- An acknowledgement takes entries from the head; the position stays on its entry or moves to the oldest left (R143). -/
theorem inFlightOrder_removeOldest {window : Nat} {r : ReturnPath} (n : Nat) (h : InFlightOrder window r) :
    InFlightOrder window (removeOldest n r) where
  bounded := Nat.le_trans (by simp [removeOldest]) h.bounded
  consecutive i hi := by
    simp only [removeOldest, List.length_drop, List.getElem_drop] at hi ⊢
    rw [h.consecutive (n + i) (by omega)]
    congr 2
    omega
  resends i hi := by
    simp only [removeOldest, List.length_drop, List.getElem_drop] at hi ⊢
    exact h.resends _ _
  position p hp := by
    simp only [removeOldest] at hp ⊢
    split at hp
    next => cases hp
    next hleft =>
      obtain ⟨q, hq, rfl⟩ := Option.map_eq_some_iff.mp hp
      have := h.position q hq
      have hne : r.inFlight.drop n ≠ [] := by simpa using hleft
      have := List.length_pos_iff.mpr hne
      simp only [List.length_drop] at this ⊢
      omega

theorem RetChange.keeps_inFlightOrder {window : Nat} {r r' : ReturnPath} (hc : RetChange window r r')
    (h : InFlightOrder window r) : InFlightOrder window r' := by
  cases hc with
  | sendReply e x rest hroom hseq hres _ =>
    exact inFlightOrder_of_same (inFlightOrder_appendSent hroom hseq hres h) rfl rfl rfl
  | sendWaiting e w rest hroom hseq hres _ =>
    refine inFlightOrder_of_same (inFlightOrder_appendSent hroom hseq hres h) ?_ ?_ ?_ <;> split <;> rfl
  | resend position count e he => exact inFlightOrder_resend count he h
  | retry hne => exact ⟨h.bounded, h.consecutive, h.resends, fun p hp => by
      cases hp
      exact List.length_pos_iff.mpr hne⟩
  | abandon hr => exact inFlightOrder_nil rfl hr
  | acknowledge n => exact inFlightOrder_removeOldest n h
  | _ => exact inFlightOrder_of_same h rfl rfl rfl

theorem storeParam_ret {p : Param} (hp : p ≠ .guardPolarity) (v : Word) (s : State) :
    (storeParam p v s).ret = s.ret := by
  rw [storeParam_only hp]

/-- A window is written only where it lies in 1 to 8 and holds what is in flight (R146). -/
theorem inFlightLaw_store {p : Param} (hp : p ≠ .guardPolarity) {v : Word} (hv : paramAdmits p v = true)
    (hr : writeRefusal p v s = none) (h : InFlightLaw s) : InFlightLaw (storeParam p v s) := by
  cases p with
  | guardPolarity => exact absurd rfl hp
  | returnWindow =>
    have hfits : s.ret.inFlight.length ≤ v.toNat := by
      by_contra hbelow
      rw [writeRefusal_returnWindow_busy (Nat.not_le.mp hbelow)] at hr
      cases hr
    exact ⟨of_decide_eq_true hv, hfits, h.consecutive, h.resends, h.position⟩
  | _ => exact ⟨h.window, h.bounded, h.consecutive, h.resends, h.position⟩

theorem Change.keeps_inFlightLaw (hc : Change allowed s t) (h : InFlightLaw s) : InFlightLaw t := by
  have hempty (u : State) (hw : 1 ≤ u.params.returnWindow.toNat ∧ u.params.returnWindow.toNat ≤ 8)
      (hl : u.ret.inFlight = []) (hp : u.ret.resendAt = none) : InFlightLaw u :=
    (inFlightLaw_iff u).mpr ⟨hw, inFlightOrder_nil hl hp⟩
  cases hc with
  | powerUp => exact hempty _ (show 1 ≤ 4 ∧ 4 ≤ 8 by decide) rfl rfl
  | assert => exact hempty _ h.window rfl rfl
  | release straps _ => exact hempty _ (show 1 ≤ 4 ∧ 4 ≤ 8 by decide) rfl rfl
  | ret r hr =>
    obtain ⟨hw, ho⟩ := (inFlightLaw_iff s).mp h
    exact (inFlightLaw_iff _).mpr ⟨hw, hr.keeps_inFlightOrder ho⟩
  | store p v _ hp hv hr => exact inFlightLaw_store hp hv hr h
  | stationReset dest tag _ =>
    cases dest <;> exact hempty _ (show 1 ≤ 4 ∧ 4 ≤ 8 by decide) rfl rfl
  | _ => exact ⟨h.window, h.bounded, h.consecutive, h.resends, h.position⟩

/-- Settles O48: every change keeps the in-flight law. -/
theorem everyStepKeepsTheInFlightListInOrder : Obligations.EveryStepKeepsTheInFlightListInOrder :=
  fun _ _ h hstep => step_keeps
    (fun _ _ h => ⟨h.window, h.bounded, h.consecutive, h.resends, h.position⟩) Change.keeps_inFlightLaw hstep h

/-! ## The queues (R124 to R126, R130, R131) -/

/-- The queues' law, of a return path. -/
structure QueueOrder (r : ReturnPath) : Prop where
  replies : r.replies.length ≤ 8
  events : r.events.length ≤ 16
  oneOverflow : r.events.count .overflow ≤ 1
  overflowReports : Waiting.overflow ∈ r.events → r.lost ≠ 0
  firstLoss : r.firstLoss = none ↔ r.lost = 0

theorem queueLaw_iff (s : State) : QueueLaw s ↔ QueueOrder s.ret :=
  ⟨fun ⟨h1, h2, h3, h4, h5⟩ => ⟨h1, h2, h3, h4, h5⟩, fun ⟨h1, h2, h3, h4, h5⟩ => ⟨h1, h2, h3, h4, h5⟩⟩

/-- A record other than OVERFLOW joins the event queue. -/
theorem queueOrder_push {r : ReturnPath} {w : Waiting} (hw : w ≠ .overflow) (hroom : r.events.length < 16)
    (h : QueueOrder r) : QueueOrder { r with events := r.events ++ [w] } where
  replies := h.replies
  events := by simp; omega
  oneOverflow := by simpa [List.count_append, List.count_singleton, hw] using h.oneOverflow
  overflowReports hmem := h.overflowReports (by simpa [hw.symm] using hmem)
  firstLoss := h.firstLoss

/-- The head of the event queue leaves; an OVERFLOW takes the account of losses with it (R126). -/
theorem queueOrder_sendWaiting {r : ReturnPath} {e : Sent} {w : Waiting} {rest : List Waiting}
    (hq : r.events = w :: rest) (h : QueueOrder r) :
    QueueOrder (if w = .overflow then { { appendSent e r with events := rest } with lost := 0, firstLoss := none }
      else { appendSent e r with events := rest }) := by
  have hlen := h.events
  have hcount := h.oneOverflow
  rw [hq] at hlen hcount
  simp only [List.length_cons] at hlen
  split
  next hw =>
    rw [hw, List.count_cons_self] at hcount
    have hnone : Waiting.overflow ∉ rest := List.count_eq_zero.mp (by omega)
    exact ⟨h.replies, Nat.le_of_succ_le hlen, by simp [List.count_eq_zero.mpr hnone], fun hmem => absurd hmem hnone,
      by simp⟩
  next hw =>
    rw [List.count_cons_of_ne hw] at hcount
    exact ⟨h.replies, Nat.le_of_succ_le hlen, hcount, fun hmem => h.overflowReports (by simp [hq, hmem]), h.firstLoss⟩

theorem RetChange.keeps_queueOrder {window : Nat} {r r' : ReturnPath} (hc : RetChange window r r')
    (h : QueueOrder r) : QueueOrder r' := by
  cases hc with
  | alert a hroom => exact queueOrder_push (by simp) hroom h
  | event e hroom => exact queueOrder_push (by simp) (by omega) h
  | loss cycle =>
    have hlost := addSaturating_one_ne_zero r.lost
    refine ⟨h.replies, h.events, h.oneOverflow, fun _ => hlost, ?_⟩
    by_cases h0 : r.lost = 0
    · simp [h0, addSaturating]
    · exact iff_of_false (by rw [if_neg h0]; exact mt h.firstLoss.mp h0) hlost
  | overflow hnone hroom hlost =>
    refine ⟨h.replies, ?_, ?_, fun _ => hlost, h.firstLoss⟩
    · simp
      omega
    · simp [List.count_append, List.count_eq_zero.mpr hnone]
  | reply x hroom =>
    refine ⟨?_, h.events, h.oneOverflow, h.overflowReports, h.firstLoss⟩
    simp
    omega
  | sendReply e x rest _ _ _ hq =>
    have := h.replies
    rw [hq, List.length_cons] at this
    exact ⟨Nat.le_of_succ_le this, h.events, h.oneOverflow, h.overflowReports, h.firstLoss⟩
  | sendWaiting e w rest _ _ _ hq => exact queueOrder_sendWaiting hq h
  | _ => exact ⟨h.replies, h.events, h.oneOverflow, h.overflowReports, h.firstLoss⟩

theorem Change.keeps_queueLaw (hc : Change allowed s t) (h : QueueLaw s) : QueueLaw t := by
  rw [queueLaw_iff] at h ⊢
  have hempty (x : List Reply) (hx : x.length ≤ 8) : QueueOrder { returnReset with replies := x } :=
    ⟨hx, by simp [returnReset], by simp [returnReset], by simp [returnReset], by simp [returnReset]⟩
  cases hc with
  | powerUp | assert | release => exact hempty [] (by decide)
  | ret r hr => exact hr.keeps_queueOrder h
  | store p v _ hp _ _ => rw [storeParam_ret hp]; exact h
  | stationReset dest tag _ =>
    cases dest with
    | single => exact hempty [_] (by simp)
    | group | all => exact hempty [] (by decide)
  | _ => exact h

/-! ## The tag memory (R153) -/

theorem Change.keeps_tagLaw (hc : Change allowed s t) (h : TagLaw s) : TagLaw t := by
  cases hc with
  | powerUp | assert | release => exact ⟨fun _ => rfl, fun hne => absurd rfl hne⟩
  | rememberSingle x hx => exact ⟨fun h0 => absurd h0 hx, fun _ => ⟨x, rfl, rfl⟩⟩
  | store p v _ hp _ _ => rw [storeParam_only hp]; exact ⟨h.noTag, h.tagged⟩
  | stationReset dest tag _ =>
    cases dest with
    | single =>
      refine ⟨fun h0 => if_pos h0, fun hne => ⟨_, if_neg hne, rfl⟩⟩
    | group | all => exact ⟨fun _ => rfl, fun hne => absurd rfl hne⟩
  | _ => exact ⟨h.noTag, h.tagged⟩

/-! ## The spare places of the status set (R178) -/

theorem flagWord_lt (f : Flag) : (flagWord f).toNat < 2 ^ 14 := by
  cases f <;> decide

theorem Change.keeps_spareFlagsLaw (hc : Change allowed s t) (h : SpareFlagsLaw s) : SpareFlagsLaw t := by
  cases hc with
  | powerUp | assert | release => exact (by decide : (0 : Word).toNat < 16384)
  | flag f =>
    show (s.flags ||| flagWord f).toNat < 16384
    rw [BitVec.toNat_or]
    exact Nat.or_lt_two_pow (n := 14) h (flagWord_lt f)
  | clear named _ =>
    show (s.flags &&& ~~~named).toNat < 16384
    rw [BitVec.toNat_and]
    exact Nat.lt_of_le_of_lt Nat.and_le_left h
  | store p v _ hp _ _ => rw [storeParam_only hp]; exact h
  | stationReset dest tag _ => rw [executeReset_only]; exact (by decide : (0 : Word).toNat < 16384)
  | _ => exact h

/-! ## The delay line (R2) -/

theorem map_arrived_forwardItem (item : Item) (f : Forward) :
    (forwardItem item f).line.map Cell.arrived = (f.line.map Cell.arrived).tail ++ [item] := by
  unfold forwardItem
  dsimp only
  split
  next h => simp [h]
  next h => simp [h]

theorem map_arrived_withdrawCells (cells : List Cell) (left : Nat) (unsent : Word) :
    (withdrawCells cells left unsent).map Cell.arrived = cells.map Cell.arrived := by
  induction cells generalizing left unsent with
  | nil => rfl
  | cons c cs ih =>
    unfold withdrawCells
    split
    next => simp [ih]
    next =>
      split
      next => simp [ih]
      next => split <;> simp [ih]

theorem forwardAtAssertion_line (cycle : Option Cycle) (f : Forward) :
    (forwardAtAssertion cycle f).line = withdrawCells f.line 0 0 := by
  unfold forwardAtAssertion
  cases cycle with
  | none => rfl
  | some c => dsimp only; split <;> rfl

theorem forwardAtAssertion_tx (cycle : Option Cycle) (f : Forward) : (forwardAtAssertion cycle f).tx = f.tx := by
  unfold forwardAtAssertion
  cases cycle with
  | none => rfl
  | some c => dsimp only; split <;> rfl

theorem length_of_map_arrived {l m : List Cell} (h : l.map Cell.arrived = m.map Cell.arrived) : l.length = m.length := by
  simpa using congrArg List.length h

theorem Change.keeps_lineLaw (hc : Change allowed s t) (h : LineLaw s) : LineLaw t := by
  cases hc with
  | powerUp => rfl
  | assert =>
    show (forwardAtAssertion s.framer.cycle s.fwd).line.length = 12
    rw [forwardAtAssertion_line, length_of_map_arrived (map_arrived_withdrawCells _ _ _)]
    exact h
  | shift item _ =>
    have hlen := congrArg List.length (map_arrived_forwardItem item s.fwd)
    have h12 : s.fwd.line.length = 12 := h
    simp only [List.length_map, List.length_append, List.length_tail, h12, List.length_singleton] at hlen
    exact hlen
  | rewrite v _ hv _ => exact (length_of_map_arrived hv).trans h
  | store p v _ hp _ _ => rw [storeParam_only hp]; exact h
  | stationReset dest tag _ => rw [executeReset_only]; exact h
  | _ => exact h

/-- Settles O49: every change keeps each of the four laws. -/
theorem everyStepKeepsQueuesTagMemorySpareFlagsAndDelayLine :
    Obligations.EveryStepKeepsQueuesTagMemorySpareFlagsAndDelayLine :=
  fun _ _ hstep =>
    ⟨step_keeps (fun s _ h => (queueLaw_iff _).mpr ((queueLaw_iff s).mp h)) Change.keeps_queueLaw hstep,
      step_keeps (fun _ _ h => ⟨h.noTag, h.tagged⟩) Change.keeps_tagLaw hstep,
      step_keeps (fun _ _ h => h) Change.keeps_spareFlagsLaw hstep,
      step_keeps (fun _ _ h => h) Change.keeps_lineLaw hstep⟩

/-! ## The parameters and what they code (R81 to R83, R150, R174) -/

theorem addressOf_toNat (straps : BitVec 5) : (addressOf straps).toNat = straps.toNat + 1 := by
  have hs := straps.isLt
  simp [addressOf]
  omega

/-- The defaults lie in their ranges (R174). -/
theorem paramLaw_defaults (hp : t.params = paramsReset) (ha : 1 ≤ t.agent.address.toNat ∧ t.agent.address.toNat ≤ 32) :
    ParamLaw t := by
  constructor <;> first | exact ha | (rw [hp]; simp [paramsReset])

theorem getElem_set_word (p : Vector Word 8) (ch i : Fin 8) (v : Word) :
    (p.set ch.val v ch.isLt)[i] = if i = ch then v else p[i] := by
  simp only [Fin.getElem_fin, Vector.getElem_set]
  exact if_congr (by rw [Fin.ext_iff, eq_comm]) rfl rfl

theorem paramLaw_store {p : Param} (hp : p ≠ .guardPolarity) {v : Word} (hv : paramAdmits p v = true)
    (h : ParamLaw s) : ParamLaw (storeParam p v s) := by
  have hset {q : Vector Word 8} {n : Nat} (hq : ∀ i : Fin 8, q[i].toNat ≤ n) (hn : v.toNat ≤ n) (ch i : Fin 8) :
      ((q.set ch.val v ch.isLt)[i]).toNat ≤ n := by
    rw [getElem_set_word]
    split
    next => exact hn
    next => exact hq i
  obtain ⟨h1, h2, h3, h4, h5, h6, h7, h8, h9, h10⟩ := h
  cases p with
  | guardPolarity => exact absurd rfl hp
  | coastLimit => exact ⟨of_decide_eq_true hv, h2, h3, h4, h5, h6, h7, h8, h9, h10⟩
  | quickConfirm => exact ⟨h1, of_decide_eq_true hv, h3, h4, h5, h6, h7, h8, h9, h10⟩
  | returnWindow => exact ⟨h1, h2, of_decide_eq_true hv, h4, h5, h6, h7, h8, h9, h10⟩
  | retryInterval => exact ⟨h1, h2, h3, of_decide_eq_true hv, h5, h6, h7, h8, h9, h10⟩
  | retryLimit => exact ⟨h1, h2, h3, h4, of_decide_eq_true hv, h6, h7, h8, h9, h10⟩
  | confirmCount => exact ⟨h1, h2, h3, h4, h5, h6, of_decide_eq_true hv, h8, h9, h10⟩
  | channelConfig ch => exact ⟨h1, h2, h3, h4, h5, h6, h7, hset h8 (of_decide_eq_true hv) ch, h9, h10⟩
  | guardMode ch => exact ⟨h1, h2, h3, h4, h5, h6, h7, h8, hset h9 (of_decide_eq_true hv) ch, h10⟩
  | _ => exact ⟨h1, h2, h3, h4, h5, h6, h7, h8, h9, h10⟩

theorem Change.keeps_paramLaw (hc : Change allowed s t) (h : ParamLaw s) : ParamLaw t := by
  have hsame (hp : t.params = s.params) (ha : t.agent.address = s.agent.address) : ParamLaw t := by
    obtain ⟨h1, h2, h3, h4, h5, h6, h7, h8, h9, h10⟩ := h
    constructor <;> first | rw [hp]; assumption | rw [ha]; assumption
  cases hc with
  | powerUp => exact paramLaw_defaults rfl h.address
  | release straps _ =>
    refine paramLaw_defaults rfl ?_
    show 1 ≤ (addressOf straps).toNat ∧ (addressOf straps).toNat ≤ 32
    rw [addressOf_toNat]
    omega
  | store p v _ hp hv _ => exact paramLaw_store hp hv h
  | polarity v _ hv =>
    obtain ⟨h1, h2, h3, h4, h5, h6, h7, h8, h9, h10⟩ := h
    exact ⟨h1, h2, h3, h4, h5, hv, h7, h8, h9, h10⟩
  | stationReset dest tag _ =>
    rw [executeReset_only]
    exact paramLaw_defaults rfl h.address
  | _ => exact hsame rfl rfl

/-- The channels' law reads the channels, their parameters and the reset. -/
theorem configLaw_of_kept (h : ConfigLaw s) (hr : t.inReset = s.inReset) (hp : t.params = s.params)
    (hc : ∀ i : Fin 8, t.channels[i].pending.getD t.channels[i].config =
      s.channels[i].pending.getD s.channels[i].config)
    (hm : ∀ i : Fin 8, t.channels[i].guardMode = s.channels[i].guardMode) : ConfigLaw t where
  config hn i := by rw [hc, hp]; exact h.config (hr ▸ hn) i
  guardMode hn i := by rw [hm, hp]; exact h.guardMode (hr ▸ hn) i

theorem configLaw_reset (hc : t.channels = channelsReset) (hp : t.params = paramsReset) : ConfigLaw t where
  config _ i := by simp [hc, hp, channelsReset, channelReset, configReset, paramsReset, configOf]
  guardMode _ i := by simp [hc, hp, channelsReset, channelReset, paramsReset, guardModeOf]

theorem configLaw_store {p : Param} (hp : p ≠ .guardPolarity) (v : Word) (h : ConfigLaw s) :
    ConfigLaw (storeParam p v s) := by
  cases p with
  | guardPolarity => exact absurd rfl hp
  | channelConfig ch =>
    refine ⟨fun hn i => ?_, fun hn i => ?_⟩
    all_goals
      simp only [storeParam, storeChannelConfig, State.putChannels_channels, State.putChannels_params,
        State.putParams_params, getElem_set_channel, getElem_set_word]
      split
    · rfl
    · exact h.config hn i
    · subst i
      exact h.guardMode hn ch
    · exact h.guardMode hn i
  | guardMode ch =>
    refine ⟨fun hn i => ?_, fun hn i => ?_⟩
    all_goals
      simp only [storeParam, storeGuardMode, State.putChannels_channels, State.putChannels_params,
        State.putParams_params, getElem_set_channel, getElem_set_word]
      split
    · subst i
      exact h.config hn ch
    · exact h.config hn i
    · rfl
    · exact h.guardMode hn i
  | _ => exact ⟨h.config, h.guardMode⟩

theorem Change.keeps_configLaw (hc : Change allowed s t) (h : ConfigLaw s) : ConfigLaw t := by
  cases hc with
  | powerUp | release => exact configLaw_reset rfl rfl
  | assert => exact ⟨fun hn => by simp [assertReset, holdBlocks, State.inReset] at hn,
      fun hn => by simp [assertReset, holdBlocks, State.inReset] at hn⟩
  | pins v _ hv =>
    refine configLaw_of_kept h ?_ rfl (fun _ => rfl) (fun _ => rfl)
    simp only [State.inReset, State.putPins_pins, State.putPins_powerHold, hv]
  | channels v hv => exact configLaw_of_kept h rfl rfl (fun i => (hv i).config) (fun i => (hv i).guardMode)
  | guardTrip c _ =>
    refine configLaw_of_kept h rfl rfl (fun i => ?_) (fun i => ?_) <;>
      simp [holdChannels_eq]
  | store p v _ hp _ _ => exact configLaw_store hp v h
  | stationReset dest tag _ =>
    rw [executeReset_only]
    exact configLaw_reset rfl rfl
  | _ => exact ⟨h.config, h.guardMode⟩

/-- Settles O58: every change keeps both laws. -/
theorem everyStepKeepsParametersInRange : Obligations.EveryStepKeepsParametersInRange :=
  fun _ _ hstep =>
    ⟨step_keeps (fun _ _ ⟨h1, h2, h3, h4, h5, h6, h7, h8, h9, h10⟩ => ⟨h1, h2, h3, h4, h5, h6, h7, h8, h9, h10⟩)
        Change.keeps_paramLaw hstep,
      step_keeps (fun _ _ h => ⟨h.config, h.guardMode⟩) Change.keeps_configLaw hstep⟩

end Sys2Proof.Machine
end

section
/-! PROOFS. What no row touches (R2, R19, R59, R150, R169, R178): the delay line, the framer, the pins and the address under
the rows that do not own them, and the flags, which only a clear or a reset takes back. -/

namespace Sys2Proof.Machine

open Sys2Proof.Safety

variable {allowed : Origin → Prop} {s t : State}

/-! ## The delay line (R2) -/

/-- Only the shift of an item, a rewriting and the rows of reset and supply reach the forwarding path. -/
theorem Change.fwd_eq (hs : ¬ allowed .shift) (hr : ¬ allowed .rewriting) (hw : ¬ allowed .hardware)
    (hc : Change allowed s t) : t.fwd = s.fwd := by
  cases hc with
  | powerUp a | assert a | release _ a => exact absurd a hw
  | shift _ a => exact absurd a hs
  | rewrite _ a => exact absurd a hr
  | store p v _ hp _ _ => rw [storeParam_only hp]
  | stationReset dest tag _ => rw [executeReset_only]; rfl
  | _ => rfl

/-- A rewriting keeps what arrived and what is sent in this item time. -/
theorem Change.arrived_eq (hs : ¬ allowed .shift) (hw : ¬ allowed .hardware) (hc : Change allowed s t) :
    (t.fwd.line.map Cell.arrived, t.fwd.tx) = (s.fwd.line.map Cell.arrived, s.fwd.tx) := by
  cases hc with
  | powerUp a | assert a | release _ a => exact absurd a hw
  | shift _ a => exact absurd a hs
  | rewrite v _ hv htx => exact Prod.ext hv htx
  | store p v _ hp _ _ => rw [storeParam_only hp]
  | stationReset dest tag _ => rw [executeReset_only]; rfl
  | _ => rfl

theorem takeItem_of_inReset {item : Item} {inputs : Byte} {amid : List (List Amid)} (h : s.inReset = true) :
    takeItem item inputs amid s = takeAmids amid.flatten
      ((s.putPins { s.pins with inputs := inputs }).putFwd (forwardItem item s.fwd)) :=
  if_pos h

/-- An item in the delay line's terms: one shift, then the changes of its work. -/
theorem takeItem_fwd (item : Item) (inputs : Byte) (amid : List (List Amid)) (h : ItemOrigins allowed s) :
    ∃ u : State, u.fwd = forwardItem item s.fwd ∧ Changes allowed u (takeItem item inputs amid s) := by
  by_cases hr : s.inReset = true
  · rw [takeItem_of_inReset hr]
    exact ⟨_, rfl, changes_takeAmids h.pin _ _⟩
  · rw [takeItem_running item inputs amid s (by simpa using hr)]
    exact ⟨_, rfl, changes_takenItem amid item (itemOrigins_afterItem h item inputs)⟩

theorem exec_itemReceived_calm (item : Item) (inputs : Byte) {amid : List (List Amid)} (s : State)
    (h : .fault ∉ amid.flatten) :
    exec (.itemReceived item inputs amid) s = .next (takeItem item inputs amid s) :=
  congrArg Host.Outcome.next (receiveItem_calm item inputs s h)

theorem forwardItem_tx {f : Forward} {c : Cell} (item : Item) (h : f.line.head? = some c) :
    (forwardItem item f).tx = leavingItem c := by
  obtain ⟨rest, hrest⟩ : ∃ rest, f.line = c :: rest := List.head?_eq_some_iff.mp h
  simp [forwardItem, hrest]

theorem leavingItem_eq (c : Cell) : leavingItem c = match c.arrived with
    | .word v => .word (c.rewritten.getD v + c.adjust)
    | .marker => .marker
    | .idle => .idle
    | .fault => .fault := by
  unfold leavingItem
  cases c.arrived <;> rfl

/-- The origins of an item's work but for the shift, which comes before it. -/
theorem itemOrigins_work (s : State) : ItemOrigins (· ∉ [Origin.shift, .hardware]) s :=
  ⟨by simp, by simp, fun _ _ _ _ => by simp, fun _ _ => by simp⟩

/-- Settles O7: the item's work keeps what arrived and what was sent at its shift. -/
theorem forwardingShiftsOneItem : Obligations.ForwardingShiftsOneItem := by
  intro item inputs amid s hcalm h12
  obtain ⟨u, hu, hc⟩ := takeItem_fwd item inputs amid (itemOrigins_work s)
  have hkept := hc.same (Change.arrived_eq (by simp) (by simp))
  obtain ⟨harrived, htx⟩ := Prod.ext_iff.mp hkept
  have hshift : (takeItem item inputs amid s).fwd.line.map Cell.arrived =
      (s.fwd.line.map Cell.arrived).tail ++ [item] := by
    rw [← map_arrived_forwardItem, ← hu]
    exact harrived
  refine ⟨_, exec_itemReceived_calm item inputs s hcalm, ?_, hshift, fun c hhead => ?_⟩
  · simpa [h12] using congrArg List.length hshift
  · have hleft : u.fwd.tx = leavingItem c := by rw [hu, forwardItem_tx item hhead]
    exact (htx.trans hleft).trans (leavingItem_eq c)

/-- The rows that own neither shift nor rewriting leave the forwarding path alone. -/
theorem exec_fwd_eq {i : Instr} (hs : ¬ origins i s .shift) (hr : ¬ origins i s .rewriting)
    (hw : ¬ origins i s .hardware) : ∃ t, exec i s = .next t ∧ t.fwd = s.fwd := by
  obtain ⟨t, ht, hc⟩ := exec_changes i s
  exact ⟨t, ht, hc.same (Change.fwd_eq hs hr hw)⟩

/-- An item that is no item of an accepted cycle is only shifted in (R59). -/
theorem takeItem_fwd_eq (item : Item) (inputs : Byte) (amid : List (List Amid))
    (h : ∀ c, s.framer.cycle = some c → c.accepted = true → s.framer.judging ≠ none) :
    (takeItem item inputs amid s).fwd = forwardItem item s.fwd := by
  have horigins : ItemOrigins (· ∉ [Origin.shift, .rewriting, .hardware]) s :=
    ⟨by simp, by simp, fun c hj hc hacc => absurd hj (h c hc hacc), fun _ _ => by simp⟩
  obtain ⟨u, hu, hc⟩ := takeItem_fwd item inputs amid horigins
  rw [← hu]
  exact hc.same (Change.fwd_eq (by simp) (by simp) (by simp))

/-! ## The rows of command records (R19, R150, R169) -/

/-- Of a command's execution neither pins nor address know anything. -/
theorem Change.pins_eq (hp : ¬ allowed .pin) (hw : ¬ allowed .hardware) (hc : Change allowed s t) :
    (t.pins, t.powerHold, t.agent.address) = (s.pins, s.powerHold, s.agent.address) := by
  cases hc with
  | powerUp a | assert a | release _ a => exact absurd a hw
  | pins _ a => exact absurd a hp
  | store p v _ hp _ _ => rw [storeParam_only hp]
  | stationReset dest tag _ => rw [executeReset_only]; rfl
  | _ => rfl

theorem origins_of_command {i : Instr} {code : Byte} {c : Call} (h : commandRecord i = some (code, c)) (s : State)
    (o : Origin) : origins i s o ↔ o = .command (kindOf code) := by
  rw [origins, h]

/-- Settles O8, by the origins of each row. -/
theorem onlyAcceptedCyclesAreRewritten : Obligations.OnlyAcceptedCyclesAreRewritten := by
  refine ⟨⟨fun item inputs amid s hcalm hcycle => ?items, fun i s hi => ?rows⟩, fun i s hi => ?commands⟩
  case items =>
    exact ⟨_, exec_itemReceived_calm item inputs s hcalm, takeItem_fwd_eq item inputs amid hcycle⟩
  case rows =>
    obtain hi | ⟨p, rfl⟩ | rfl | ⟨m, rfl⟩ | rfl | rfl | rfl | rfl := hi
    · obtain ⟨record, hrecord⟩ := Option.ne_none_iff_exists'.mp hi
      exact exec_fwd_eq (by simp [origins_of_command hrecord]) (by simp [origins_of_command hrecord])
        (by simp [origins_of_command hrecord])
    all_goals
      exact exec_fwd_eq (by simp [origins, eventOrigins, commandRecord])
        (by simp [origins, eventOrigins, commandRecord]) (by simp [origins, eventOrigins, commandRecord])
  case commands =>
    obtain ⟨record, hrecord⟩ := Option.ne_none_iff_exists'.mp hi
    have hno (o : Origin) (ho : ∀ k, o ≠ .command k) : ¬ origins i s o := fun h =>
      ho _ ((origins_of_command hrecord s o).mp h)
    obtain ⟨t, ht, hc⟩ := exec_changes i s
    have hpins := hc.same (Change.pins_eq (hno _ (by simp)) (hno _ (by simp)))
    simp only [Prod.mk.injEq] at hpins
    exact ⟨t, ht, hc.same (Change.framer_eq (hno _ (by simp)) (hno _ (by simp))),
      hc.same (Change.fwd_eq (hno _ (by simp)) (hno _ (by simp)) (hno _ (by simp))), hpins⟩

/-! ## Flags that are set stay set (R1, R178) -/

theorem Change.keeps_flag {place : Nat} (hclear : ¬ allowed (.command .clearStatus))
    (hreset : ¬ allowed (.command .resetStation)) (hw : ¬ allowed .hardware) (hc : Change allowed s t)
    (h : s.flags.getLsbD place = true) : t.flags.getLsbD place = true := by
  cases hc with
  | powerUp a | assert a | release _ a => exact absurd a hw
  | clear _ a => exact absurd a hclear
  | stationReset _ _ a => exact absurd a hreset
  | flag f =>
    show (s.flags ||| flagWord f).getLsbD place = true
    rw [BitVec.getLsbD_or, h, Bool.true_or]
  | store p v _ hp _ _ => rw [storeParam_only hp]; exact h
  | _ => exact h

theorem completes_fault (s : State) : completes .fault s = false := by
  by_contra h
  obtain ⟨c, -, -, -, -, -, hword, -⟩ := completes_iff.mp (by simpa using h)
  cases hword

/-- A FAULT out of reset sets WORD-FAULT before the framer looks at it (R1), and nothing of its work clears it. -/
theorem takeItem_fault_flag (inputs : Byte) (amid : List (List Amid)) (h : s.inReset = false) :
    (takeItem .fault inputs amid s).flags.getLsbD 0 = true := by
  rw [takeItem_running _ _ _ _ h, completes_fault, if_neg Bool.false_ne_true]
  have hset : (afterItem .fault inputs s).flags.getLsbD 0 = true := by simp [afterItem]
  exact (changes_frameAmid (allowed := (· ∈ [Origin.pin, .framer, .rewriting])) (by simp) (by simp) amid .fault
    (fun _ _ _ _ => by simp)).keeps (Change.keeps_flag (by simp) (by simp) (by simp)) hset

theorem laterFaults_keeps_flag {place : Nat} (n : Nat) (h : s.flags.getLsbD place = true) :
    (laterFaults n s).flags.getLsbD place = true :=
  (changes_laterFaults (allowed := (· ∈ [Origin.pin, .framer, .shift, .rewriting])) (by simp) (by simp) (by simp) (by simp)
    n s).keeps (Change.keeps_flag (by simp) (by simp) (by simp)) h

/-- While the blocks are held in reset what falls amid an item reaches the pins alone (R5). -/
theorem takeAmids_of_inReset (as : List Amid) (h : s.inReset = true) :
    ∃ high, takeAmids as s = s.putPins { s.pins with guardHigh := high } := by
  induction as generalizing s with
  | nil => exact ⟨s.pins.guardHigh, rfl⟩
  | cons a as ih =>
    cases a with
    | fault =>
      have hnothing : takeAmid s .fault = s := if_pos h
      obtain ⟨high, hhigh⟩ := ih h
      exact ⟨high, (congrArg (takeAmids as) hnothing).trans hhigh⟩
    | guardChange =>
      have hlevel : takeAmid s .guardChange = s.putPins { s.pins with guardHigh := !s.pins.guardHigh } := by
        simp [takeAmid, toggleGuardPin, setGuardPin, h]
      obtain ⟨high, hhigh⟩ := ih (s := takeAmid s .guardChange) (by rw [hlevel]; exact h)
      exact ⟨high, hhigh.trans (by rw [hlevel]; rfl)⟩

theorem laterFaults_of_inReset (n : Nat) (h : s.inReset = true) : ∃ fwd, laterFaults n s = s.putFwd fwd := by
  induction n generalizing s with
  | zero => exact ⟨s.fwd, rfl⟩
  | succ n ih =>
    have hlater : laterFault s = s.putFwd (forwardItem .fault s.fwd) := if_pos h
    obtain ⟨fwd, hfwd⟩ := ih (s := laterFault s) (by rw [hlater]; exact h)
    exact ⟨fwd, hfwd.trans (by rw [hlater]; rfl)⟩

/-- Held in reset, an item reaches the forwarding path and the pins, and nothing else (R5). -/
theorem receiveItem_of_inReset (item : Item) (inputs : Byte) (amid : List (List Amid)) (h : s.inReset = true) :
    ∃ fwd pins, receiveItem item inputs amid s = (s.putPins pins).putFwd fwd := by
  rw [receiveItem, takeItem_of_inReset h]
  obtain ⟨high, hhigh⟩ := takeAmids_of_inReset amid.flatten
    (s := (s.putPins { s.pins with inputs := inputs }).putFwd (forwardItem item s.fwd)) h
  rw [hhigh]
  obtain ⟨fwd, hfwd⟩ := laterFaults_of_inReset (amid.flatten.count .fault)
    (s := ((s.putPins { s.pins with inputs := inputs }).putFwd (forwardItem item s.fwd)).putPins
      { s.pins with inputs := inputs, guardHigh := high }) h
  exact ⟨fwd, { s.pins with inputs := inputs, guardHigh := high }, hfwd⟩

theorem origins_hardware {i : Instr} (h : origins i s .hardware) :
    i = .powerUp ∨ i = .resetPinAsserted ∨ ∃ straps, i = .hardwareReset straps := by
  unfold origins at h
  split at h
  next => simp at h
  next =>
    cases i with
    | powerUp => exact .inl rfl
    | resetPinAsserted => exact .inr (.inl rfl)
    | hardwareReset straps => exact .inr (.inr ⟨straps, rfl⟩)
    | _ => simp [eventOrigins] at h

/-- Settles O9: WORD-FAULT is set before the work on a FAULT begins, and only a clear or a reset takes a flag back. -/
theorem faultSetsWordFaultAndFlagsAreSticky : Obligations.FaultSetsWordFaultAndFlagsAreSticky := by
  refine ⟨fun inputs amid s => ⟨_, rfl, fun hrun => ?sets, fun hreset => ?held⟩,
    fun i place s t hwf hexec hset hother hpower hassert hrelease hheld => ?sticky⟩
  case sets => exact laterFaults_keeps_flag _ (takeItem_fault_flag inputs amid hrun)
  case held =>
    obtain ⟨fwd, pins, heq⟩ := receiveItem_of_inReset .fault inputs amid hreset
    rw [heq]
    rfl
  case sticky =>
    have hno (k : CommandKind) (hrow : ∀ code c, commandRecord i = some (code, c) → kindOf code ≠ k)
        (hentry : ∀ e ∈ s.engine.held, kindOf e.code ≠ k) : ¬ origins i s (.command k) := fun h => by
      obtain ⟨code, c, hi, hk⟩ | ⟨-, e, he, hk⟩ := origins_command h
      · exact hrow code c hi hk.symm
      · exact hentry e he hk.symm
    refine (changes_of_exec hexec).keeps (Change.keeps_flag (hno _ ?_ ?_) (hno _ ?_ ?_) fun hw => ?_) hset
    · exact fun code c hi hk => (hother c).1 ((commandRecord_of_kind hwf hi).2.1 hk)
    · exact fun e he hk => (hheld e he).1 ((kindOf_clearStatus e.code).mp hk)
    · exact fun code c hi hk => (hother c).2 ((commandRecord_of_kind hwf hi).2.2 hk)
    · exact fun e he hk => (hheld e he).2 ((kindOf_resetStation e.code).mp hk)
    · obtain hi | hi | ⟨straps, hi⟩ := origins_hardware hw
      · exact hpower hi
      · exact hassert hi
      · exact hrelease straps hi

end Sys2Proof.Machine
end

section
/-! PROOFS. What each acquisition state of the framer carries (R19 to R36): the law as a property of the framer alone, each
of the framer's moves that keeps it, and the walk through an item, its completion and its link loss. -/

namespace Sys2Proof.Machine

open Sys2Proof.Safety

variable {s t : State} {f : Framer} {bound : Nat}

/-! ## The law as a property of the framer -/

/-- The framer follows the ring: LOCKED or COASTING. -/
def following (f : Framer) : Prop :=
  f.acquisition = .locked ∨ f.acquisition = .coasting

/-- What the framer's states carry with them, F being bounded in COASTING. -/
structure FramerOrder (bound : Nat) (f : Framer) : Prop where
  coasting : f.acquisition = .coasting → 1 ≤ f.failures ∧ f.failures ≤ bound
  noFailure : f.acquisition ≠ .coasting → f.failures = 0
  holds : following f → f.last.isSome ∧ f.reference.isSome ∧ f.slotCount.isSome ∧ 1 ≤ f.position
  noWindow : ¬ following f → f.position = 0
  hunting : f.acquisition = .hunt → f.reference = none ∧ f.slotCount = none
  confirming : f.acquisition = .confirm → f.slotCount.isSome
  candidate : f.candidate.isSome = true ↔ f.acquisition = .confirm
  slotCount : f.slotCount.isSome = true ↔ f.reference.isSome = true ∨ f.candidate.isSome = true
  goodCycle : ∀ c, f.cycle = some c → c.accepted = true → c.status ≠ .spoiled → following f
  candidateCycle : ∀ c, f.cycle = some c → c.accepted = false → f.acquisition = .confirm
  oneAtATime : f.judging ≠ none → f.cycle = none
  judgedInWindow : ∀ j, f.judging = some j → (j.purpose = .window ↔ following f)
  judgedSuccessor : ∀ j, f.judging = some j → j.purpose = .successor → f.acquisition = .confirm

theorem follows_iff (s : State) : follows s = true ↔ following s.framer := by
  simp [follows, following]

theorem follows_false_iff (s : State) : follows s = false ↔ ¬ following s.framer := by
  rw [← follows_iff]
  simp

theorem framerLaw_iff (s : State) : FramerLaw s ↔
    1 ≤ s.params.coastLimit.toNat ∧ FramerOrder s.params.coastLimit.toNat s.framer := by
  constructor
  · rintro ⟨h0, h1, h2, h3, h4, h5, h6, h7, h8, h9, h10, h11, h12, h13⟩
    simp only [follows_iff, follows_false_iff] at h3 h4 h9 h12
    exact ⟨h0, h1, h2, h3, h4, h5, h6, h7, h8, h9, h10, h11, h12, h13⟩
  · rintro ⟨h0, h1, h2, h3, h4, h5, h6, h7, h8, h9, h10, h11, h12, h13⟩
    simp only [← follows_iff, Bool.not_eq_true] at h3 h4 h9 h12
    exact ⟨h0, h1, h2, h3, h4, h5, h6, h7, h8, h9, h10, h11, h12, h13⟩

theorem FramerOrder.weaken {bound' : Nat} (hb : bound ≤ bound') (h : FramerOrder bound f) : FramerOrder bound' f :=
  { h with coasting := fun hc => ⟨(h.coasting hc).1, Nat.le_trans (h.coasting hc).2 hb⟩ }

/-- The bound may be taken down to what F keeps within. -/
theorem FramerOrder.tighten {bound' : Nat} (hb : f.failures ≤ bound') (h : FramerOrder bound f) : FramerOrder bound' f :=
  { h with coasting := fun hc => ⟨(h.coasting hc).1, hb⟩ }

/-! ## The moves -/

theorem not_confirm_of_following (hf : following f) : f.acquisition ≠ .confirm := by
  rintro hc
  obtain hf | hf := hf <;> cases hf.symm.trans hc

section Moves
variable (h : FramerOrder bound f)
include h

theorem framerOrder_beginJudging {j : Judging} (hw : j.purpose = .window ↔ following f)
    (hs : j.purpose = .successor → f.acquisition = .confirm) :
    FramerOrder bound { f with judging := some j, cycle := none } := by
  obtain ⟨h1, h2, h3, h4, h5, h6, h7, h8, h9, h10, h11, h12, h13⟩ := h
  constructor <;> simp_all [following]

theorem framerOrder_keepHeaderA {j : Judging} (hj : f.judging = some j) (a : Option Word) :
    FramerOrder bound { f with judging := some { j with headerA := a } } := by
  obtain ⟨h1, h2, h3, h4, h5, h6, h7, h8, h9, h10, h11, h12, h13⟩ := h
  constructor <;> simp_all [following]

theorem framerOrder_enterHunt (hf : ¬ following f) : FramerOrder bound { f with
    acquisition := .hunt, reference := none, slotCount := none, candidate := none, judging := none, cycle := none } := by
  obtain ⟨h1, h2, h3, h4, h5, h6, h7, h8, h9, h10, h11, h12, h13⟩ := h
  constructor <;> simp_all [following]

theorem framerOrder_enterConfirm (hf : ¬ following f) (slots : Nat) (k : Candidate) {c : Cycle}
    (hc : c.accepted = false) : FramerOrder bound { f with
      acquisition := .confirm, reference := none, slotCount := some slots, candidate := some k, judging := none
      cycle := some c } := by
  obtain ⟨h1, h2, h3, h4, h5, h6, h7, h8, h9, h10, h11, h12, h13⟩ := h
  constructor <;> simp_all [following]

theorem framerOrder_newCandidate (hf : f.acquisition = .confirm) (r : Nat) (k : Candidate) {c : Cycle}
    (hc : c.accepted = false) : FramerOrder bound { f with
      reference := some r, candidate := some k, judging := none, cycle := some c } := by
  obtain ⟨h1, h2, h3, h4, h5, h6, h7, h8, h9, h10, h11, h12, h13⟩ := h
  constructor <;> simp_all [following]

theorem framerOrder_enterLocked (hf : f.acquisition = .confirm) (r : Nat) (m : Marker) (count : Word) {c : Cycle}
    (hc : c.accepted = true) : FramerOrder bound { f with
      acquisition := .locked, reference := some r, failures := 0, candidate := none, last := some m, position := 1
      acceptedCount := count, judging := none, cycle := some c } := by
  obtain ⟨h1, h2, h3, h4, h5, h6, h7, h8, h9, h10, h11, h12, h13⟩ := h
  constructor <;> simp_all [following]

theorem framerOrder_accept (hf : following f) (m : Marker) (count : Word) {c : Cycle} (hc : c.accepted = true) :
    FramerOrder bound { f with
      acceptedCount := count, last := some m, position := 1, judging := none, cycle := some c } := by
  obtain ⟨h1, h2, h3, h4, h5, h6, h7, h8, h9, h10, h11, h12, h13⟩ := h
  constructor <;> simp_all [following]

/-- A cycle moves on, or a candidate's or a good one ends up spoiled, where it belongs. -/
theorem framerOrder_putCycle (hj : f.judging = none) (d : Cycle)
    (hgood : d.accepted = true → d.status ≠ .spoiled → following f)
    (hcandidate : d.accepted = false → f.acquisition = .confirm) : FramerOrder bound { f with cycle := some d } := by
  obtain ⟨h1, h2, h3, h4, h5, h6, h7, h8, h9, h10, h11, h12, h13⟩ := h
  constructor <;> simp_all [following]

theorem framerOrder_noCycle : FramerOrder bound { f with cycle := none } := by
  obtain ⟨h1, h2, h3, h4, h5, h6, h7, h8, h9, h10, h11, h12, h13⟩ := h
  constructor <;> simp_all [following]

theorem framerOrder_candidateGood (g : Candidate → Candidate) :
    FramerOrder bound { f with candidate := f.candidate.map g, cycle := none } := by
  obtain ⟨h1, h2, h3, h4, h5, h6, h7, h8, h9, h10, h11, h12, h13⟩ := h
  constructor <;> simp_all [following]

theorem framerOrder_missed (hf : following f) (hc : f.cycle = none) :
    FramerOrder bound { f with position := f.position + 1, judging := none } := by
  obtain ⟨h1, h2, h3, h4, h5, h6, h7, h8, h9, h10, h11, h12, h13⟩ := h
  constructor <;> simp_all [following]

theorem framerOrder_tick (n : Nat) : FramerOrder bound { f with now := n } := by
  obtain ⟨h1, h2, h3, h4, h5, h6, h7, h8, h9, h10, h11, h12, h13⟩ := h
  exact ⟨h1, h2, h3, h4, h5, h6, h7, h8, h9, h10, h11, h12, h13⟩

/-- A completion: LOCKED, whatever the bound (R31, R35). -/
theorem framerOrder_complete (hf : following f) (bound' : Nat) :
    FramerOrder bound' { f with acquisition := .locked, failures := 0 } := by
  have hconfirm := not_confirm_of_following hf
  obtain ⟨h1, h2, h3, h4, h5, h6, h7, h8, h9, h10, h11, h12, h13⟩ := h
  constructor <;> simp_all [following]

/-- A link loss: no good cycle may be left under way (R36). -/
theorem framerOrder_loseLink (hf : following f) (hc : ∀ c, f.cycle = some c → c.status = .spoiled) :
    FramerOrder bound { f with
      acquisition := .hunt, reference := none, slotCount := none, failures := 0, position := 0, judging := none } := by
  have hconfirm := not_confirm_of_following hf
  obtain ⟨h1, h2, h3, h4, h5, h6, h7, h8, h9, h10, h11, h12, h13⟩ := h
  constructor <;> simp_all [following]

end Moves

/-! ## A failure (R34, R35) -/

/-- The framer after a failure. -/
def failed (f : Framer) : Framer :=
  match f.acquisition with
  | .locked => { f with acquisition := .coasting, failures := 1 }
  | .coasting => { f with failures := f.failures + 1 }
  | .hunt | .confirm => f

theorem takeFailure_framer (s : State) : (takeFailure s).framer = failed s.framer := by
  unfold takeFailure failed
  split <;> simp_all

theorem framerOrder_failed (h : FramerOrder bound f) : FramerOrder (bound + 1) (failed f) := by
  have hweak := h.weaken (Nat.le_add_right bound 1)
  unfold failed
  split
  next ha =>
    obtain ⟨h1, h2, h3, h4, h5, h6, h7, h8, h9, h10, h11, h12, h13⟩ := hweak
    constructor <;> simp_all [following]
  next ha =>
    have hf := (h.coasting ha).2
    obtain ⟨h1, h2, h3, h4, h5, h6, h7, h8, h9, h10, h11, h12, h13⟩ := hweak
    constructor <;> simp_all [following]
  next => exact hweak
  next => exact hweak

theorem FramerOrder.failures_le (h : FramerOrder bound f) : f.failures ≤ bound := by
  by_cases hc : f.acquisition = .coasting
  · exact (h.coasting hc).2
  · rw [h.noFailure hc]
    exact Nat.zero_le _

theorem failed_failures_le (h : FramerOrder bound f) (hb : 1 ≤ bound) (hc : f.acquisition ≠ .coasting) :
    (failed f).failures ≤ bound := by
  have hle := h.failures_le
  unfold failed
  split <;> first | exact hb | exact hle | contradiction

/-! ## What an item leaves -/

/-- What the framer's taking of an item leaves: the law with F at most one above the bound, and above it only in COASTING
and with no good cycle under way, where the link is then lost (R35, R36). -/
structure Framed (bound : Nat) (before after : Framer) : Prop where
  order : FramerOrder (bound + 1) after
  above : bound < after.failures → before.acquisition = .coasting ∧ after.acquisition = .coasting ∧
    after.acceptedCount = before.acceptedCount ∧ ∀ c, after.cycle = some c → c.status = .spoiled

theorem framed_of_order (before : Framer) {after : Framer} (h : FramerOrder bound after) : Framed bound before after :=
  ⟨h.weaken (Nat.le_add_right _ _), fun habove => absurd h.failures_le (Nat.not_le.mpr habove)⟩

theorem framed_failed {before : Framer} (hb : 1 ≤ bound) (h : FramerOrder bound f)
    (ha : f.acquisition = before.acquisition) (hn : f.acceptedCount = before.acceptedCount)
    (hc : ∀ c, f.cycle = some c → c.status = .spoiled) : Framed bound before (failed f) := by
  refine ⟨framerOrder_failed h, fun habove => ?_⟩
  have hcoast : f.acquisition = .coasting := by
    by_contra hno
    exact absurd (failed_failures_le h hb hno) (Nat.not_le.mpr habove)
  have hfailed : failed f = { f with failures := f.failures + 1 } := by
    unfold failed
    simp [hcoast]
  rw [hfailed]
  exact ⟨ha ▸ hcoast, hcoast, hn, hc⟩

/-! ## The framer's operations in these terms -/

theorem setFlagIf_framer (b : Bool) (g : Flag) (s : State) : (setFlagIf b g s).framer = s.framer := by
  cases b <;> rfl

theorem missCycle_framer (s : State) :
    (missCycle s).framer = failed { s.framer with position := s.framer.position + 1, judging := none } := by
  rw [missCycle, takeFailure_framer]
  congr 1
  exact setFlagIf_framer _ _ _

theorem spoilCycle_framer (c : Cycle) (s : State) :
    (spoilCycle c s).framer = failed { s.framer with cycle := some { c with status := .spoiled } } :=
  takeFailure_framer _

theorem framed_missCycle (hb : 1 ≤ bound) (h : FramerOrder bound s.framer) (hf : following s.framer)
    (hc : s.framer.cycle = none) : Framed bound s.framer (missCycle s).framer := by
  rw [missCycle_framer]
  exact framed_failed hb (framerOrder_missed h hf hc) rfl rfl (by simp [hc])

section Judged
variable {j : Judging} (hb : 1 ≤ bound) (h : FramerOrder bound s.framer) (hj : s.framer.judging = some j)
include hb h hj

theorem framed_headerNotValid : Framed bound s.framer (headerNotValid j s).framer := by
  have hwindow := h.judgedInWindow j hj
  unfold headerNotValid
  split
  next hp => exact framed_of_order _ (framerOrder_enterHunt h (by simp [← hwindow, hp]))
  next hp => exact framed_of_order _ (framerOrder_enterHunt h (by simp [← hwindow, hp]))
  next hp => exact framed_missCycle hb h (hwindow.mp hp) (h.oneAtATime (by simp [hj]))

theorem framed_headerIsValid (a b : Word) : Framed bound s.framer (headerIsValid j a b s).framer := by
  have hwindow := h.judgedInWindow j hj
  have hconfirm (hp : j.purpose ≠ .window) : Framed bound s.framer (enterConfirm j.time a b s).framer :=
    framed_of_order _ (framerOrder_enterConfirm h (mt hwindow.mpr hp) _ _ rfl)
  unfold headerIsValid
  split
  next hp => exact hconfirm (by simp [hp])
  next hp =>
    split
    next k _ =>
      have hacq := h.judgedSuccessor j hj hp
      unfold judgeSuccessor
      dsimp only
      split
      next =>
        split
        next => exact framed_of_order _ (framerOrder_enterLocked h hacq _ _ _ rfl)
        next => exact framed_of_order _ (framerOrder_newCandidate h hacq _ _ rfl)
      next => exact hconfirm (by simp [hp])
    next => exact hconfirm (by simp [hp])
  next hp =>
    unfold judgeExpected
    split
    next => exact framed_of_order _ (framerOrder_accept h (hwindow.mp hp) _ _ rfl)
    next => exact framed_missCycle hb h (hwindow.mp hp) (h.oneAtATime (by simp [hj]))

theorem framed_headerItem (item : Item) : Framed bound s.framer (headerItem j item s).framer := by
  have hwindow := h.judgedInWindow j hj
  have hagain (hp : j.purpose ≠ .window) (hacq : (headerNotValid j s).framer = (enterHunt s).framer) :
      Framed bound s.framer (beginJudging .search (headerNotValid j s)).framer := by
    have hhunt := framerOrder_enterHunt h (mt hwindow.mpr hp)
    have hjudge := framerOrder_beginJudging hhunt (j := ⟨s.framer.now, .search, none⟩) (by simp [following]) (by simp)
    show Framed bound s.framer { (headerNotValid j s).framer with judging := _, cycle := none }
    rw [hacq]
    exact framed_of_order _ hjudge
  unfold headerItem
  split
  next => exact framed_of_order _ (framerOrder_keepHeaderA h hj _)
  next =>
    split
    next => exact framed_headerIsValid hb h hj _ _
    next => exact framed_headerNotValid hb h hj
  next =>
    split
    next hp => exact hagain (by simp [hp]) (by simp [headerNotValid, hp])
    next hp => exact hagain (by simp [hp]) (by simp [headerNotValid, hp])
    next => exact framed_headerNotValid (s := setFlag .strayMarker s) hb h hj
  next => exact framed_headerNotValid hb h hj
  next => exact framed_headerNotValid hb h hj

end Judged

theorem framed_gapItem (hb : 1 ≤ bound) (h : FramerOrder bound s.framer) (hc : s.framer.cycle = none) (item : Item) :
    Framed bound s.framer (gapItem item s).framer := by
  have hjudge (p : Purpose) (hw : p = .window ↔ following s.framer)
      (hs : p = .successor → s.framer.acquisition = .confirm) : Framed bound s.framer (beginJudging p s).framer :=
    framed_of_order _ (framerOrder_beginJudging h hw hs)
  have hwindow (hf : following s.framer) : Framed bound s.framer
      (if item = .marker ∧ inWindow s.framer.now s then beginJudging .window s
      else
        let t := setFlagIf (item == .marker) .strayMarker s
        if windowCloses s.framer.now t then missCycle t else t).framer := by
    dsimp only
    split
    next => exact hjudge .window (by simp [hf]) (by simp)
    next =>
      have hflag := setFlagIf_framer (item == .marker) .strayMarker s
      split
      next =>
        have hmiss := framed_missCycle (s := setFlagIf (item == .marker) .strayMarker s) hb (by rw [hflag]; exact h)
          (by rw [hflag]; exact hf) (by rw [hflag]; exact hc)
        rw [hflag] at hmiss
        exact hmiss
      next =>
        rw [hflag]
        exact framed_of_order _ h
  unfold gapItem
  split
  next ha =>
    split
    next => exact hjudge .search (by simp [following, ha]) (by simp)
    next => exact framed_of_order _ h
  next ha =>
    split
    next => exact hjudge .successor (by simp [following, ha]) (fun _ => ha)
    next => exact framed_of_order _ h
  next ha => exact hwindow (.inl ha)
  next ha => exact hwindow (.inr ha)

/-! ## Items of a counted cycle -/

theorem advanceCycle_same (item : Item) (c : Cycle) :
    (advanceCycle item c).accepted = c.accepted ∧ (advanceCycle item c).status = c.status ∧
      (advanceCycle item c).net = c.net ∧ (advanceCycle item c).slots = c.slots ∧
      (advanceCycle item c).kind = c.kind ∧ (advanceCycle item c).number = c.number := by
  unfold advanceCycle
  dsimp only
  split
  next => split <;> exact ⟨rfl, rfl, rfl, rfl, rfl, rfl⟩
  next => exact ⟨rfl, rfl, rfl, rfl, rfl, rfl⟩

section Counted
variable {c : Cycle} (h : FramerOrder bound s.framer) (hj : s.framer.judging = none) (hc : s.framer.cycle = some c)
include h hj hc

theorem framed_candidateItem (hacc : c.accepted = false) (item : Item) :
    Framed bound s.framer (candidateItem c item s).framer := by
  have hconfirm := h.candidateCycle c hc hacc
  have hfollow : ¬ following s.framer := by simp [following, hconfirm]
  have hadv := (advanceCycle_same item c).1
  unfold candidateItem
  dsimp only
  refine framed_of_order _ ?_
  split
  next => exact framerOrder_beginJudging h (by simp [hfollow]) (by simp)
  next =>
    split
    next =>
      split
      next => exact framerOrder_enterHunt h hfollow
      next => exact framerOrder_putCycle h hj _ (by simp [hadv, hacc]) (fun _ => hconfirm)
    next =>
      split
      next => exact framerOrder_candidateGood h _
      next => exact framerOrder_enterHunt h hfollow

end Counted

/-! The net check change is all that a slot's decision reaches in the framer (R62). -/

/-- The framer with its cycle's net check change increased. -/
def netted (w : Word) (f : Framer) : Framer :=
  { f with cycle := f.cycle.map fun c => { c with net := c.net + w } }

theorem netted_zero (f : Framer) : netted 0 f = f := by
  unfold netted
  cases f with
  | mk _ _ _ _ _ _ _ _ _ cycle _ => cases cycle <;> simp

theorem addNet_netted (w : Word) (s : State) : (addNet w s).framer = netted w s.framer := by
  unfold addNet netted
  split
  next c hc => rw [hc]; rfl
  next hc => rw [hc, Option.map_none, ← hc]

theorem leaveAs_netted (sl : Slot) (header : Word) (p : Vector Word 6) (s : State) :
    ∃ w, (leaveAs sl header p s).framer = netted w s.framer :=
  ⟨_, addNet_netted _ _⟩

theorem unnetted {t : State} (h : t.framer = s.framer) : ∃ w, t.framer = netted w s.framer :=
  ⟨0, by rw [netted_zero, h]⟩

theorem offerAction_netted (cls : OfferClass) (n : Nat) (sl : Slot) (s : State) :
    ∃ w, (offerAction cls n sl s).framer = netted w s.framer := by
  have hserve := serveOffer_framer cls s
  unfold offerAction
  split
  next => exact unnetted rfl
  next =>
    split
    next t words ht =>
      rw [ht] at hserve
      obtain ⟨w, hw⟩ := leaveAs_netted sl (slotHeader t.agent.address true n) words
        (t.putEngine { t.engine with handover := some words })
      exact ⟨w, hw.trans (congrArg (netted w) hserve)⟩
    next t ht =>
      rw [ht] at hserve
      exact unnetted hserve

theorem actOnSlot_netted (e : Entry) (n : Nat) (sl : Slot) (s : State) :
    ∃ w, (actOnSlot e n sl s).framer = netted w s.framer := by
  cases e with
  | pass => exact unnetted rfl
  | take word release =>
    simp only [actOnSlot, takeAction]
    split
    next =>
      split
      next => exact leaveAs_netted _ _ _ _
      next => exact unnetted rfl
    next => exact unnetted rfl
  | fill word src =>
    simp only [actOnSlot, fillAction]
    split
    next => exact unnetted rfl
    next => exact leaveAs_netted _ _ _ _
  | offer cls => exact offerAction_netted cls n sl s
  | manage release =>
    simp only [actOnSlot, manageAction]
    split
    next =>
      split
      next => exact unnetted rfl
      next =>
        split
        next => exact leaveAs_netted _ _ _ _
        next => exact unnetted rfl
    next => exact unnetted rfl

theorem decideSlot_netted (c : Cycle) (n : Nat) (s : State) : ∃ w, (decideSlot c n s).framer = netted w s.framer := by
  unfold decideSlot
  split
  next => exact unnetted rfl
  next =>
    split
    next => exact actOnSlot_netted _ _ _ _
    next => exact unnetted rfl

theorem framerOrder_netted (w : Word) (h : FramerOrder bound f) : FramerOrder bound (netted w f) := by
  unfold netted
  cases hc : f.cycle with
  | none => exact framerOrder_noCycle h
  | some c =>
    have hj : f.judging = none := by
      by_contra hno
      cases hc.symm.trans (h.oneAtATime hno)
    exact framerOrder_putCycle h hj _ (h.goodCycle c hc) (h.candidateCycle c hc)

theorem framed_netted (w : Word) {before : Framer} (h : Framed bound before f) : Framed bound before (netted w f) := by
  refine ⟨framerOrder_netted w h.order, fun habove => ?_⟩
  obtain ⟨hbefore, hacq, hcount, hcycle⟩ := h.above habove
  refine ⟨hbefore, hacq, hcount, fun c hc => ?_⟩
  obtain ⟨d, hd, rfl⟩ := Option.map_eq_some_iff.mp hc
  exact hcycle d hd

theorem framed_noCycle {before : Framer} (h : Framed bound before f) : Framed bound before { f with cycle := none } := by
  refine ⟨framerOrder_noCycle h.order, fun habove => ?_⟩
  obtain ⟨hbefore, hacq, hcount, -⟩ := h.above habove
  exact ⟨hbefore, hacq, hcount, by simp⟩

theorem endCycle_framer (s : State) : (endCycle s).framer = { s.framer with cycle := none } := by
  unfold endCycle
  split
  next => rfl
  next hc => simp [← hc]

theorem spoils_running {item : Item} {d : Cycle} (h : spoils item d = true) : d.status = .running := by
  simp only [spoils, Bool.and_eq_true, beq_iff_eq] at h
  exact h.1

theorem framed_acceptedItem {c : Cycle} (hb : 1 ≤ bound) (h : FramerOrder bound s.framer)
    (hj : s.framer.judging = none) (hc : s.framer.cycle = some c) (hacc : c.accepted = true) (item : Item) :
    Framed bound s.framer (acceptedItem c item s).framer := by
  obtain ⟨hadvAcc, hadvStatus, -⟩ := advanceCycle_same item c
  have hspoil : Framed bound s.framer
      (if spoils item (advanceCycle item c) then spoilCycle (advanceCycle item c)
          (setFlagIf (item == .marker) .strayMarker (s.putFramer { s.framer with cycle := some (advanceCycle item c) }))
        else setFlagIf (item == .marker) .strayMarker
          (s.putFramer { s.framer with cycle := some (advanceCycle item c) })).framer := by
    split
    next =>
      rw [spoilCycle_framer, setFlagIf_framer]
      refine framed_failed hb (framerOrder_putCycle h hj _ (by simp) (by simp [hadvAcc, hacc])) rfl rfl ?_
      simp
    next =>
      rw [setFlagIf_framer]
      refine framed_of_order _ (framerOrder_putCycle h hj _ (fun _ => ?_) (by simp [hadvAcc, hacc]))
      rw [hadvStatus]
      exact h.goodCycle c hc hacc
  unfold acceptedItem
  dsimp only
  split
  next =>
    split
    next =>
      obtain ⟨w, hw⟩ := decideSlot_netted _ _ _
      rw [hw]
      exact framed_netted w hspoil
    next => exact hspoil
  next =>
    rw [endCycle_framer]
    exact framed_noCycle hspoil

theorem framed_frameItem (hb : 1 ≤ bound) (h : FramerOrder bound s.framer) (item : Item) :
    Framed bound s.framer (frameItem item s).framer := by
  unfold frameItem
  split
  next j hj => exact framed_headerItem hb h hj item
  next c hj hc =>
    unfold cycleItem
    split
    next hacc => exact framed_candidateItem h hj hc (by simpa using hacc) item
    next hacc =>
      split
      next hm =>
        have hcut : (cutShort c s).framer = s.framer := by
          unfold cutShort
          split <;> rfl
        show Framed bound s.framer { (cutShort c s).framer with judging := _, cycle := none }
        rw [hcut]
        exact framed_of_order _ (framerOrder_beginJudging h (by simp [following, hm.2]) (by simp))
      next => exact framed_acceptedItem hb h hj hc (by simpa using hacc) item
  next hc => exact framed_gapItem hb h hc item

/-! ## What falls before an item leaves its failures alone -/

section Alike
variable (hf : t.framer = s.framer)
include hf

theorem headerNotValid_framer_congr (j : Judging) : (headerNotValid j t).framer = (headerNotValid j s).framer := by
  unfold headerNotValid
  cases j.purpose <;> simp only [enterHunt, State.putFramer_framer, missCycle_framer, hf]

theorem headerIsValid_framer_congr (hp : t.params = s.params) (j : Judging) (a b : Word) :
    (headerIsValid j a b t).framer = (headerIsValid j a b s).framer := by
  have hconfirm (time : Nat) : (enterConfirm time a b t).framer = (enterConfirm time a b s).framer := by
    simp only [enterConfirm, State.putFramer_framer, hf, hp]
  have haccept (time : Nat) : (acceptCycle time a b t).framer = (acceptCycle time a b s).framer := by
    simp only [acceptCycle, State.putEngine_framer, State.putChannels_framer, State.putFramer_framer, hf]
  unfold headerIsValid
  cases j.purpose with
  | search => exact hconfirm _
  | successor =>
    simp only [hf]
    cases s.framer.candidate with
    | none => exact hconfirm _
    | some k =>
      simp only [judgeSuccessor, hf]
      split_ifs
      · simp only [enterLocked, acceptCycle, State.putEngine_framer, State.putChannels_framer, State.putFramer_framer, hf]
      · rfl
      · exact hconfirm _
  | window =>
    have hlast : lastNumber t = lastNumber s := by simp only [lastNumber, hf]
    dsimp only [judgeExpected]
    rw [hlast, hf]
    split_ifs
    · exact haccept _
    · simp only [missCycle_framer, hf]

theorem headerItem_framer_congr (hp : t.params = s.params) (j : Judging) (item : Item) :
    (headerItem j item t).framer = (headerItem j item s).framer := by
  have hbad := headerNotValid_framer_congr hf j
  have hstray := headerNotValid_framer_congr (t := setFlag .strayMarker t) (s := setFlag .strayMarker s) hf j
  unfold headerItem
  cases item with
  | word w =>
    cases j.headerA with
    | none => simp only [State.putFramer_framer, hf]
    | some a =>
      dsimp only
      split_ifs
      · exact headerIsValid_framer_congr hf hp j a w
      · exact hbad
  | marker =>
    have hagain : (beginJudging .search (headerNotValid j t)).framer =
        (beginJudging .search (headerNotValid j s)).framer := by
      simp only [beginJudging, State.putFramer_framer, hbad]
    cases j.purpose with
    | search => exact hagain
    | successor => exact hagain
    | window => exact hstray
  | idle => exact hbad
  | fault => exact hbad

theorem gapItem_framer_congr (item : Item) : (gapItem item t).framer = (gapItem item s).framer := by
  have hmiss : (missCycle (setFlagIf (item == .marker) .strayMarker t)).framer =
      (missCycle (setFlagIf (item == .marker) .strayMarker s)).framer := by
    simp only [missCycle_framer, setFlagIf_framer, hf]
  have hjudge (p : Purpose) : (beginJudging p t).framer = (beginJudging p s).framer := by
    simp only [beginJudging, State.putFramer_framer, hf]
  unfold gapItem
  cases ha : s.framer.acquisition <;>
    · simp only [hf, ha, inWindow, windowCloses, expectedTime, setFlagIf_framer]
      split_ifs <;> first | exact hjudge _ | exact hmiss | simp only [setFlagIf_framer, hf]

theorem candidateItem_framer_congr (c : Cycle) (item : Item) :
    (candidateItem c item t).framer = (candidateItem c item s).framer := by
  simp only [candidateItem, beginJudging, enterHunt, hf]
  split_ifs <;> rfl

/-- A slot's decision and a trailer's adjustment leave the failures of the item as they were. -/
theorem acceptedItem_failures_congr (c : Cycle) (item : Item) :
    (acceptedItem c item t).framer.failures = (acceptedItem c item s).framer.failures := by
  have hdecide (d : Cycle) (n : Nat) (u : State) : (decideSlot d n u).framer.failures = u.framer.failures := by
    obtain ⟨w, hw⟩ := decideSlot_netted d n u
    rw [hw]
    rfl
  simp only [acceptedItem]
  split_ifs <;> simp only [hdecide, endCycle_framer, spoilCycle_framer, setFlagIf_framer, State.putFramer_framer, hf]

theorem frameItem_failures_congr (hp : t.params = s.params) (item : Item) :
    (frameItem item t).framer.failures = (frameItem item s).framer.failures := by
  unfold frameItem
  rw [hf]
  cases s.framer.judging with
  | some j => exact congrArg Framer.failures (headerItem_framer_congr hf hp j item)
  | none =>
    cases s.framer.cycle with
    | none => exact congrArg Framer.failures (gapItem_framer_congr hf item)
    | some c =>
      have hcut (u : State) : (cutShort c u).framer = u.framer := by
        unfold cutShort
        split <;> rfl
      simp only [cycleItem, hf]
      split_ifs
      · exact congrArg Framer.failures (candidateItem_framer_congr hf c item)
      · simp only [beginJudging, State.putFramer_framer, hcut, hf]
      · exact acceptedItem_failures_congr hf c item

end Alike

/-! ## An item, its completion and its link loss -/

/-- Nothing but a write, a station reset and the rows of reset reach the parameters. -/
theorem Change.params_eq {allowed : Origin → Prop} (hw : ¬ allowed (.command .writeParam))
    (hr : ¬ allowed (.command .resetStation)) (hh : ¬ allowed .hardware) (hc : Change allowed s t) :
    t.params = s.params := by
  cases hc with
  | powerUp a | assert a | release _ a => exact absurd a hh
  | store _ _ a | polarity _ a => exact absurd a hw
  | stationReset _ _ a => exact absurd a hr
  | _ => rfl

/-- The coast limit stays above 0 whatever is written (R174). -/
theorem Change.keeps_coastLimit {allowed : Origin → Prop} (hc : Change allowed s t)
    (h : 1 ≤ s.params.coastLimit.toNat) : 1 ≤ t.params.coastLimit.toNat := by
  cases hc with
  | powerUp | release => exact (by decide : 1 ≤ (3 : Word).toNat)
  | stationReset dest tag _ => rw [executeReset_only]; exact (by decide : 1 ≤ (3 : Word).toNat)
  | store p v _ _ hv _ =>
    cases p with
    | coastLimit => exact (of_decide_eq_true hv).1
    | guardPolarity => contradiction
    | _ => exact h
  | _ => exact h

theorem framerLaw_of_same (h : FramerLaw s) (hf : t.framer = s.framer) (hp : t.params = s.params) : FramerLaw t := by
  rw [framerLaw_iff] at h ⊢
  rw [hf, hp]
  exact h

/-- Where only the pins are at work, and the blocks beside the framer, the law stands. -/
theorem framerLaw_of_pins (h : FramerLaw s) (hc : Changes (fun o => o = .pin) s t) : FramerLaw t :=
  framerLaw_of_same h (hc.same (Change.framer_eq (by simp) (by simp)))
    (hc.same (Change.params_eq (by simp) (by simp) (by simp)))

theorem framerLaw_of_framed {before : Framer} (hb : 1 ≤ s.params.coastLimit.toNat)
    (h : Framed s.params.coastLimit.toNat before s.framer)
    (hle : s.framer.failures ≤ s.params.coastLimit.toNat) : FramerLaw s :=
  (framerLaw_iff s).mpr ⟨hb, h.order.tighten hle⟩

/-- What the framer's loss of the link brings to the other blocks. -/
theorem changes_loseLink_tail (amid : List (List Amid)) (s : State) :
    Changes (fun o => o = .pin) (s.putFramer { s.framer with
      acquisition := .hunt, reference := none, slotCount := none, failures := 0, position := 0, judging := none })
      (loseLink amid s) :=
  (changes_discardReady _).trans (changes_raiseLinkLoss (allowed := fun o => o = .pin) rfl amid _)

theorem framerLaw_loseLink {before : Framer} (hb : 1 ≤ s.params.coastLimit.toNat)
    (h : Framed s.params.coastLimit.toNat before s.framer) (habove : s.params.coastLimit.toNat < s.framer.failures)
    (amid : List (List Amid)) : FramerLaw (loseLink amid s) := by
  obtain ⟨-, hacq, -, hcycle⟩ := h.above habove
  refine framerLaw_of_pins ?_ (changes_loseLink_tail amid s)
  have hlost := framerOrder_loseLink h.order (.inr hacq) hcycle
  exact (framerLaw_iff _).mpr ⟨hb, hlost.tighten (Nat.zero_le _)⟩

theorem exceeds_iff (limit : Word) (before after : Framer) : exceeds limit before after = true ↔
    before.acquisition = .coasting ∧ before.failures < after.failures ∧ limit.toNat < after.failures := by
  simp [exceeds]

theorem accepted_of_same {before after : Framer} (h : after.acceptedCount = before.acceptedCount) :
    accepted before after = false := by
  simp [accepted, h]

/-- What the other blocks do then loses the link exactly where the failures pass the coast limit. -/
theorem framerLaw_settle {before : Framer} (hb : 1 ≤ s.params.coastLimit.toNat)
    (hbefore : before.failures ≤ s.params.coastLimit.toNat)
    (h : Framed s.params.coastLimit.toNat before s.framer) (amid : List (List Amid)) :
    FramerLaw (settle amid before s) := by
  by_cases habove : s.params.coastLimit.toNat < s.framer.failures
  · obtain ⟨hcoast, -, hcount, -⟩ := h.above habove
    rw [settle, accepted_of_same hcount, (exceeds_iff _ _ _).mpr ⟨hcoast, by omega, habove⟩]
    exact framerLaw_loseLink hb h habove amid
  · have hlaw := framerLaw_of_framed hb h (Nat.le_of_not_lt habove)
    have hno : exceeds s.params.coastLimit before s.framer = false := by
      rw [← Bool.not_eq_true, exceeds_iff]
      exact fun hx => habove hx.2.2
    rw [settle, hno]
    split
    next => exact framerLaw_of_pins hlaw (changes_atAcceptedMarker (allowed := fun o => o = .pin) rfl amid _ _ s)
    next => exact hlaw

theorem changes_takeAmids_pin (as : List Amid) (s : State) : Changes (fun o => o = .pin) s (takeAmids as s) :=
  changes_takeAmids (allowed := fun o => o = .pin) rfl as s

theorem takeAmids_params (as : List Amid) (s : State) : (takeAmids as s).params = s.params :=
  (changes_takeAmids_pin as s).same (Change.params_eq (by simp) (by simp) (by simp))

theorem frameItem_params (item : Item) (s : State) : (frameItem item s).params = s.params :=
  (changes_frameItem (allowed := fun o => o = .framer ∨ o = .rewriting) (.inl rfl) item (fun _ _ _ _ => .inr rfl)).same
    (Change.params_eq (by simp) (by simp) (by simp))

/-- The framer's taking of an item that completes no cycle, whatever falls amid it. -/
theorem framerLaw_frameAmid (h : FramerLaw s) (amid : List (List Amid)) (item : Item) :
    FramerLaw (frameAmid amid item s) := by
  obtain ⟨hb, horder⟩ := (framerLaw_iff s).mp h
  have hbefore := horder.failures_le
  have hframed : Framed (frameItem item s).params.coastLimit.toNat s.framer (frameItem item s).framer := by
    rw [frameItem_params]
    exact framed_frameItem hb horder item
  unfold frameAmid
  dsimp only
  split
  next => exact framerLaw_settle (by rw [frameItem_params]; exact hb) (by rw [frameItem_params]; exact hbefore) hframed amid
  next hquiet =>
    have hle : (frameItem item s).framer.failures ≤ s.params.coastLimit.toNat := by
      refine Nat.le_of_not_lt fun habove => hquiet ?_
      rw [frameItem_params] at hframed ⊢
      obtain ⟨hcoast, -⟩ := hframed.above habove
      simp [(exceeds_iff s.params.coastLimit _ _).mpr ⟨hcoast, by omega, habove⟩]
    have hfirst : FramerLaw (takeAmids (amid.headD []) s) := framerLaw_of_pins h (changes_takeAmids_pin _ s)
    have hitem : FramerLaw (frameItem item (takeAmids (amid.headD []) s)) := by
      have hparams : (frameItem item (takeAmids (amid.headD []) s)).params = s.params := by
        rw [frameItem_params, takeAmids_params]
      have hfailures := frameItem_failures_congr (takeAmids_framer (amid.headD []) s)
        (takeAmids_params (amid.headD []) s) item
      obtain ⟨hb', horder'⟩ := (framerLaw_iff _).mp hfirst
      have hframed' := framed_frameItem hb' horder' item
      rw [takeAmids_params] at hframed'
      exact framerLaw_of_framed (by rw [hparams]; exact hb) (by rw [hparams]; exact hframed')
        (by rw [hparams, hfailures]; exact hle)
    exact framerLaw_of_pins hitem (changes_takeAmids_pin _ _)

/-- In LOCKED the law holds whatever the coast limit becomes, so that commands may write it (R35, R75). -/
theorem framerLaw_of_locked (h : FramerOrder bound s.framer) (hl : s.framer.acquisition = .locked)
    (hb : 1 ≤ s.params.coastLimit.toNat) : FramerLaw s := by
  refine (framerLaw_iff s).mpr ⟨hb, h.tighten ?_⟩
  rw [h.noFailure (by simp [hl])]
  exact Nat.zero_le _

/-- A completion in the framer's terms: LOCKED, and the held list's commands leave the framer alone (R31, R75). -/
theorem framerLaw_completeCycle (h : FramerOrder bound s.framer) (hf : following s.framer)
    (hb : 1 ≤ s.params.coastLimit.toNat) (amid : List (List Amid)) : FramerLaw (completeCycle amid s) := by
  have hrun : Changes (· ∉ [Origin.framer, .hardware])
      (s.putFramer { s.framer with acquisition := .locked, failures := 0 }) (completeCycle amid s) :=
    (changes_makeReady _).trans <| (changes_runHeld (by simp) (fun _ _ => by simp) amid _).tail (.engine _)
  have hframer := hrun.same (Change.framer_eq (by simp) (by simp))
  have horder := framerOrder_complete h hf bound
  refine framerLaw_of_locked (bound := bound) ?_ ?_ (hrun.keeps Change.keeps_coastLimit hb)
  · rw [hframer]
    exact horder
  · rw [hframer]
    rfl

theorem framerLaw_takenItem (h : FramerLaw s) (amid : List (List Amid)) (item : Item) :
    FramerLaw (if completes item s then completeCycle amid (frameItem item s) else frameAmid amid item s) := by
  obtain ⟨hb, horder⟩ := (framerLaw_iff s).mp h
  split
  next hc =>
    obtain ⟨c, -, hcycle, hacc, hrun, -⟩ := completes_iff.mp hc
    have hfollow := horder.goodCycle c hcycle hacc (by simp [hrun])
    obtain ⟨c, -, -, -, heq⟩ := frameItem_of_completes hc
    rw [heq]
    exact framerLaw_completeCycle (s := (s.putFwd (adjustTrailer c.net s.fwd)).putFramer { s.framer with cycle := none })
      (framerOrder_noCycle horder) hfollow hb amid
  next => exact framerLaw_frameAmid h amid item

theorem framerLaw_tick (h : FramerLaw s) (hf : t.framer = { s.framer with now := s.framer.now + 1 })
    (hp : t.params = s.params) : FramerLaw t := by
  rw [framerLaw_iff] at h ⊢
  rw [hf, hp]
  exact ⟨h.1, framerOrder_tick h.2 _⟩

theorem framerLaw_laterFaults (n : Nat) (h : FramerLaw s) : FramerLaw (laterFaults n s) := by
  induction n generalizing s with
  | zero => exact h
  | succ n ih =>
    refine ih (s := laterFault s) ?_
    unfold laterFault
    split
    next => exact framerLaw_of_same h rfl rfl
    next =>
      have htick : FramerLaw (carryItem .fault s) := framerLaw_tick h rfl rfl
      exact framerLaw_frameAmid htick [] .fault

theorem framerLaw_receiveItem (h : FramerLaw s) (item : Item) (inputs : Byte) (amid : List (List Amid)) :
    FramerLaw (receiveItem item inputs amid s) := by
  refine framerLaw_laterFaults _ ?_
  by_cases hr : s.inReset = true
  · rw [takeItem_of_inReset hr]
    have hshift : FramerLaw ((s.putPins { s.pins with inputs := inputs }).putFwd (forwardItem item s.fwd)) :=
      framerLaw_of_same h rfl rfl
    exact framerLaw_of_pins hshift (changes_takeAmids_pin _ _)
  · rw [takeItem_running item inputs amid s (by simpa using hr)]
    have htick : FramerLaw (afterItem item inputs s) := framerLaw_tick h rfl rfl
    exact framerLaw_takenItem htick amid item

/-! ## The rows -/

theorem framerOrder_reset : FramerOrder bound framerReset := by
  constructor <;> simp [framerReset, following]

/-- A command row executes in LOCKED only, or changes nothing (R75). -/
theorem framerLaw_commandStep (h : FramerLaw s) (code : Byte) (c : Call) :
    FramerLaw (if atCompletion s then takeCommand code c s else s) := by
  split
  next hat =>
    have hrun : Changes (· ∉ [Origin.framer, .hardware]) s (takeCommand code c s) :=
      changes_takeCommand (by simp) c s
    have hframer := hrun.same (Change.framer_eq (by simp) (by simp))
    have hlocked : s.framer.acquisition = .locked := by
      simp only [atCompletion, Bool.and_eq_true, beq_iff_eq] at hat
      exact hat.1.2
    obtain ⟨hb, horder⟩ := (framerLaw_iff s).mp h
    exact framerLaw_of_locked (hframer ▸ horder) (hframer ▸ hlocked) (hrun.keeps Change.keeps_coastLimit hb)
  next => exact h

theorem followsRing_iff (s : State) : followsRing s = true ↔ s.inReset = false ∧ following s.framer := by
  simp [followsRing, following]

theorem framerLaw_cycleCompleted (h : FramerLaw s) (amid : List (List Amid))
    (ht : execCycleCompleted amid s = .next t) : FramerLaw t := by
  obtain ⟨hb, horder⟩ := (framerLaw_iff s).mp h
  unfold execCycleCompleted at ht
  split at ht
  next c hc =>
    split at ht
    next hdue =>
      cases ht
      have hfollow := ((followsRing_iff s).mp (Bool.and_eq_true _ _ ▸ hdue).1).2
      have hj : s.framer.judging = none := by
        by_contra hno
        cases hc.symm.trans (horder.oneAtATime hno)
      have hacc : c.accepted = true := by
        simp only [trailerDue, Bool.and_eq_true] at hdue
        exact hdue.2.1.1.1
      have hmarked := framerOrder_putCycle horder hj { c with status := .completed } (fun _ _ => hfollow) (by simp [hacc])
      exact framerLaw_completeCycle
        (s := s.putFramer { s.framer with cycle := some { c with status := .completed } }) hmarked hfollow hb amid
    next => cases ht; exact h
  next => cases ht; exact h

theorem framerLaw_cycleMissed (h : FramerLaw s) : FramerLaw (if windowReached s then settle [] s.framer (missCycle s) else s) := by
  obtain ⟨hb, horder⟩ := (framerLaw_iff s).mp h
  split
  next hw =>
    simp only [windowReached, Bool.and_eq_true, followsRing_iff, Option.isNone_iff_eq_none] at hw
    have hparams : (missCycle s).params = s.params :=
      (changes_missCycle (allowed := fun o => o = .framer) rfl s).same
        (Change.params_eq (by simp) (by simp) (by simp))
    refine framerLaw_settle ?_ ?_ ?_ [] <;> rw [hparams]
    · exact hb
    · exact horder.failures_le
    · exact framed_missCycle hb horder hw.1.1.2 hw.1.2
  next => exact h

/-- An offered slot's record reaches the net check change alone (R62). -/
theorem framerLaw_recordRow (h : FramerLaw s) {i : Instr} (hi : i = .recordSent ∨ i = .recordResent)
    (ht : exec i s = .next t) : FramerLaw t := by
  have hparams : t.params = s.params :=
    (changes_of_exec ht).same (Change.params_eq
      (by obtain rfl | rfl := hi <;> simp [origins, commandRecord, eventOrigins])
      (by obtain rfl | rfl := hi <;> simp [origins, commandRecord, eventOrigins])
      (by obtain rfl | rfl := hi <;> simp [origins, commandRecord, eventOrigins]))
  have hnet : ∃ w, t.framer = netted w s.framer := by
    have hoffer (cls : OfferClass) (n : Nat) (sl : Slot) (b : Bool) :
        ∃ w, (if b then offerAction cls n sl s else s).framer = netted w s.framer := by
      split
      next => exact offerAction_netted cls n sl s
      next => exact unnetted rfl
    obtain rfl | rfl := hi
    · change execRecordSent s = _ at ht
      unfold execRecordSent at ht
      split at ht <;> cases ht
      · exact hoffer _ _ _ _
      · exact unnetted rfl
    · change execRecordResent s = _ at ht
      unfold execRecordResent at ht
      split at ht <;> cases ht
      · exact hoffer _ _ _ _
      · exact unnetted rfl
  obtain ⟨w, hw⟩ := hnet
  obtain ⟨hb, horder⟩ := (framerLaw_iff s).mp h
  rw [framerLaw_iff, hw, hparams]
  exact ⟨hb, framerOrder_netted w horder⟩

theorem framerLaw_exec (h : FramerLaw s) {i : Instr} (ht : exec i s = .next t) : FramerLaw t := by
  have hquiet (ho : ∀ o, origins i s o → o = .pin) : FramerLaw t :=
    framerLaw_of_pins h ((changes_of_exec ht).mono ho)
  cases hi : commandRecord i with
  | some record =>
    rw [exec_commandRecord hi] at ht
    cases ht
    exact framerLaw_commandStep h _ _
  | none =>
    cases i with
    | powerUp => cases ht; exact (framerLaw_iff _).mpr ⟨(by decide : 1 ≤ (3 : Word).toNat), framerOrder_reset⟩
    | resetPinAsserted => cases ht; exact (framerLaw_iff _).mpr ⟨h.coastLimit, framerOrder_reset⟩
    | hardwareReset straps =>
      cases ht
      exact (framerLaw_iff _).mpr ⟨(by decide : 1 ≤ (3 : Word).toNat), framerOrder_reset⟩
    | itemReceived item inputs amid => cases ht; exact framerLaw_receiveItem h item inputs amid
    | cycleCompleted amid => exact framerLaw_cycleCompleted h amid ht
    | cycleMissed => cases ht; exact framerLaw_cycleMissed h
    | recordSent => exact framerLaw_recordRow h (.inl rfl) ht
    | recordResent => exact framerLaw_recordRow h (.inr rfl) ht
    | planSwap | applyInstant | retryExpiry | guardPinActive | guardPinInactive =>
      exact hquiet (by simp [origins, commandRecord, eventOrigins])
    | _ => cases hi

/-- Settles O59: every row keeps the framer's law. -/
theorem everyStepKeepsTheFramersStates : Obligations.EveryStepKeepsTheFramersStates := by
  intro s t h hstep
  unfold step at hstep
  split at hstep
  next => cases hstep; exact h
  next i rest _ =>
    have hfront : FramerLaw (s.putPending rest) := framerLaw_of_same h rfl rfl
    exact framerLaw_exec hfront hstep

end Sys2Proof.Machine
end

section
/-! PROOFS. The commands of the slot plan, of the channels and of the plain parameters (R46, R49, R54, R57, R81 to R83,
R93, R164), duplicates and full queues (R156 to R158), and RESET-STATION (R169 to R172). -/

namespace Sys2Proof.Machine

open Sys2Proof.Safety

/-! ## Plan entries (R44) -/

/-- Settles O25: arguments name an entry exactly when they are its codes. -/
theorem entryCodesNameTheirEntryAndNoOther : Obligations.EntryCodesNameTheirEntryAndNoOther :=
  ⟨fun e => (entryOfArgs_eq_some_iff _ _ _ e).mpr ⟨rfl, rfl, rfl⟩,
    fun a1 a2 a3 e => (entryOfArgs_eq_some_iff a1 a2 a3 e).mp⟩

/-! ## COPY-ACTIVE (R46, R57) -/

section PlanCommands
variable {c : Call} {s : State}

theorem effectCopyActive_done (ha : NoArguments c) (hc : s.plan.commit = none) : effectCopyActive c s =
    ⟨s.putPlan (putBank (standby s.plan) (bankOf s.plan.active s.plan) s.plan), .done,
      bankNumber (standby s.plan), 0, 0⟩ := by
  simp only [effectCopyActive, (noArguments_iff c).mpr ha, if_true, hc]

theorem effectCopyActive_pending {target : Word} (ha : NoArguments c) (hc : s.plan.commit = some target) :
    effectCopyActive c s = ⟨s, .pending, target, 0, 0⟩ := by
  simp only [effectCopyActive, (noArguments_iff c).mpr ha, if_true, hc]

theorem effectCopyActive_range (ha : ¬ NoArguments c) : effectCopyActive c s = refuse .range s :=
  if_neg (mt (noArguments_iff c).mp ha)

theorem exec_copyActive (hx : Executes c.dest c.tag s) {e : Effect} (he : effectCopyActive c s = e) :
    exec (.copyActive c) s = .next (ending c.dest c.tag 0x06 e.result e.d0 e.d1 e.d2 e.state) :=
  exec_executes rfl hx (by decide) (by decide) (fun _ => rfl) he

/-! ## COMMIT and CANCEL-COMMIT (R49, R54, R57) -/

theorem effectCommit_pending {target : Word} (h1 : c.a1 = 0) (h2 : c.a2 = 0) (h3 : c.a3 = 0)
    (hc : s.plan.commit = some target) : effectCommit c s = ⟨s, .pending, target, lastAccepted s, 0⟩ := by
  simp [effectCommit, h1, h2, h3, hc, lastNumber_eq]

theorem effectCommit_done (h1 : c.a1 = 0) (h2 : c.a2 = 0) (h3 : c.a3 = 0) (hc : s.plan.commit = none)
    (hlow : 1 ≤ (c.a0 - lastAccepted s).toNat) (hhigh : (c.a0 - lastAccepted s).toNat ≤ 32767) :
    effectCommit c s = ⟨s.putPlan { s.plan with commit := some c.a0 }, .done, c.a0, lastAccepted s,
      bankNumber (standby s.plan)⟩ := by
  simp only [effectCommit, h1, h2, h3, and_self, if_true, hc, lastNumber_eq, hlow, hhigh]

theorem effectCommit_range (h1 : c.a1 = 0) (h2 : c.a2 = 0) (h3 : c.a3 = 0) (hc : s.plan.commit = none)
    (hfar : (c.a0 - lastAccepted s).toNat = 0 ∨ 32767 < (c.a0 - lastAccepted s).toNat) :
    effectCommit c s = ⟨s, .range, c.a0, lastAccepted s, 0⟩ := by
  have hout : ¬ (1 ≤ (c.a0 - lastAccepted s).toNat ∧ (c.a0 - lastAccepted s).toNat ≤ 32767) := by omega
  simp only [effectCommit, h1, h2, h3, and_self, if_true, hc, lastNumber_eq, if_neg hout]

theorem effectCommit_arguments (h : c.a1 ≠ 0 ∨ c.a2 ≠ 0 ∨ c.a3 ≠ 0) :
    effectCommit c s = ⟨s, .range, c.a0, lastAccepted s, 0⟩ := by
  rw [← lastNumber_eq]
  exact if_neg (by tauto)

theorem exec_commit (hx : Executes c.dest c.tag s) {e : Effect} (he : effectCommit c s = e) :
    exec (.commit c) s = .next (ending c.dest c.tag 0x07 e.result e.d0 e.d1 e.d2 e.state) :=
  exec_executes rfl hx (by decide) (by decide) (fun _ => rfl) he

theorem effectCancelCommit_done {target : Word} (ha : NoArguments c) (hc : s.plan.commit = some target) :
    effectCancelCommit c s = ⟨s.putPlan { s.plan with commit := none }, .done, target, 0, 0⟩ := by
  simp only [effectCancelCommit, (noArguments_iff c).mpr ha, if_true, hc]

theorem effectCancelCommit_notPending (ha : NoArguments c) (hc : s.plan.commit = none) :
    effectCancelCommit c s = refuse .notPending s := by
  simp only [effectCancelCommit, (noArguments_iff c).mpr ha, if_true, hc]

theorem effectCancelCommit_range (ha : ¬ NoArguments c) : effectCancelCommit c s = refuse .range s :=
  if_neg (mt (noArguments_iff c).mp ha)

theorem exec_cancelCommit (hx : Executes c.dest c.tag s) {e : Effect} (he : effectCancelCommit c s = e) :
    exec (.cancelCommit c) s = .next (ending c.dest c.tag 0x08 e.result e.d0 e.d1 e.d2 e.state) :=
  exec_executes rfl hx (by decide) (by decide) (fun _ => rfl) he

end PlanCommands

/-- Settles O26, by the active bank. -/
theorem copyActiveOverwritesTheStandbyBank : Obligations.CopyActiveOverwritesTheStandbyBank := by
  refine fun c s hx => ⟨fun ha hc => ⟨fun hact => ?zero, fun hact => ?one⟩, fun target ha hc => ?pending,
    fun ha => exec_copyActive hx (effectCopyActive_range ha)⟩
  case zero =>
    rw [exec_copyActive hx (effectCopyActive_done ha hc), standby_of_active_zero hact, hact]
    rfl
  case one =>
    rw [exec_copyActive hx (effectCopyActive_done ha hc), standby_of_active_one hact, hact]
    rfl
  case pending => exact exec_copyActive hx (effectCopyActive_pending ha hc)

theorem bankNumber_standby (p : Plan) : bankNumber (standby p) = if p.active = .zero then 1 else 0 := by
  unfold standby
  cases p.active <;> rfl

/-- Settles O28, by the outcomes of the two effects. -/
theorem commitAndCancelCommitKeepOnePendingCommit : Obligations.CommitAndCancelCommitKeepOnePendingCommit := by
  refine ⟨fun c s hx => ⟨fun h1 h2 h3 hc hlow hhigh => ?done, fun target h1 h2 h3 hc => ?pending,
      fun h1 h2 h3 hc hfar => ?range, fun h => ?arguments⟩,
    fun c s hx => ⟨fun target ha hc => ?cancelled, fun ha hc => ?nothing, fun ha => ?cancelRange⟩⟩
  case done =>
    rw [exec_commit hx (effectCommit_done h1 h2 h3 hc hlow hhigh), bankNumber_standby]
    rfl
  case pending => exact exec_commit hx (effectCommit_pending h1 h2 h3 hc)
  case range => exact exec_commit hx (effectCommit_range h1 h2 h3 hc hfar)
  case arguments => exact exec_commit hx (effectCommit_arguments h)
  case cancelled => exact exec_cancelCommit hx (effectCancelCommit_done ha hc)
  case nothing => exact exec_cancelCommit hx (effectCancelCommit_notPending ha hc)
  case cancelRange => exact exec_cancelCommit hx (effectCancelCommit_range ha)

/-! ## The channels' parameters (R81 to R83) -/

theorem writeCall_paramOf_channelConfig (i : Fin 8) (w : WriteCall) :
    paramOf (writeCall (16 + i.val) w).a0 = some (.channelConfig i) :=
  paramOf_channelConfig i

theorem writeCall_paramOf_guardMode (i : Fin 8) (w : WriteCall) :
    paramOf (writeCall (24 + i.val) w).a0 = some (.guardMode i) :=
  paramOf_guardMode i

theorem writeRefusal_guardMode_locked {ch : Fin 8} {s : State} (v : Word)
    (h : s.guard.state = .tripped ∨ s.channels[ch].held = true) : writeRefusal (.guardMode ch) v s = some .locked :=
  if_pos h

theorem writeRefusal_guardMode_none {ch : Fin 8} {s : State} (v : Word)
    (h : ¬ (s.guard.state = .tripped ∨ s.channels[ch].held = true)) : writeRefusal (.guardMode ch) v s = none :=
  if_neg h

/-- The four values of a guard-mode parameter (R81). -/
theorem guardModeOf_eq {v : Word} (h : v.toNat ≤ 3) : guardModeOf v =
    if v = 0 then .none else if v = 1 then .float else if v = 2 then .low else .high := by
  obtain ⟨n, hn⟩ : ∃ n, v.toNat = n := ⟨_, rfl⟩
  obtain rfl : v = BitVec.ofNat 16 n := by rw [← hn, BitVec.ofNat_toNat, BitVec.setWidth_eq]
  rw [hn] at h
  interval_cases n <;> rfl

/-- Settles O36, by the outcomes of WRITE-PARAM at the channels' numbers. -/
theorem channelParametersAreWritten : Obligations.ChannelParametersAreWritten := by
  refine ⟨fun i w s hx => ⟨fun h2 h3 hv => ?config, fun h2 h3 hv => ?configRange, fun h => ?configArguments⟩,
    fun i w s hx => ⟨fun h2 h3 hv hfree => ?mode, fun h2 h3 hv hlocked => ?modeLocked, fun h2 h3 hv => ?modeRange,
      fun h => ?modeArguments⟩⟩
  case config =>
    exact commandStep_writeCall hx
      (effectWriteParam_done h2 h3 (writeCall_paramOf_channelConfig i w) rfl (decide_eq_true hv) rfl)
  case configRange =>
    exact commandStep_writeCall hx (effectWriteParam_range h2 h3 (writeCall_paramOf_channelConfig i w) rfl
      (decide_eq_false (Nat.not_le.mpr hv)))
  case mode =>
    rw [← guardModeOf_eq hv]
    exact commandStep_writeCall hx (effectWriteParam_done h2 h3 (writeCall_paramOf_guardMode i w) rfl
      (decide_eq_true hv) (writeRefusal_guardMode_none _ hfree))
  case modeLocked =>
    exact commandStep_writeCall hx (effectWriteParam_refused h2 h3 (writeCall_paramOf_guardMode i w) rfl
      (decide_eq_true hv) (writeRefusal_guardMode_locked _ hlocked))
  case modeRange =>
    exact commandStep_writeCall hx (effectWriteParam_range h2 h3 (writeCall_paramOf_guardMode i w) rfl
      (decide_eq_false (Nat.not_le.mpr hv)))
  case configArguments | modeArguments => exact commandStep_writeCall hx (effectWriteParam_arguments h)

/-! ## No pin moves (R93) -/

/-- What a pin drives is read from the reset and its channel's configuration, HELD, guard mode and applied level. -/
theorem pinDrive_congr {s t : State} {j : Fin 8} (hr : t.inReset = s.inReset)
    (hconfig : t.channels[j].config = s.channels[j].config) (happlied : t.channels[j].applied = s.channels[j].applied)
    (hheld : t.channels[j].held = s.channels[j].held)
    (hmode : t.channels[j].guardMode = s.channels[j].guardMode ∨ s.channels[j].held = false) :
    pinDrive t j = pinDrive s j := by
  have hlevel : logicalLevel t.channels[j] = logicalLevel s.channels[j] := by
    rw [logicalLevel_eq, logicalLevel_eq, hconfig, happlied]
  unfold pinDrive
  dsimp only
  rw [hr, hlevel, hheld, hconfig]
  obtain hmode | hfree := hmode
  · rw [hmode]
  · rw [hfree]
    rfl

/-- The pins stand still between two states. -/
def PinsStill (s t : State) : Prop :=
  ∀ j : Fin 8, pinDrive t j = pinDrive s j

theorem pinsStill_of_same {s t : State} (hr : t.inReset = s.inReset) (hc : t.channels = s.channels) : PinsStill s t :=
  fun j => pinDrive_congr hr (by rw [hc]) (by rw [hc]) (by rw [hc]) (.inl (by rw [hc]))

theorem PinsStill.trans {s t u : State} (h1 : PinsStill s t) (h2 : PinsStill t u) : PinsStill s u :=
  fun j => (h2 j).trans (h1 j)

/-- A configuration write waits for the apply instant, and a guard mode is written on a channel that is not held. -/
theorem pinsStill_store {p : Param} {v : Word} {s : State}
    (hp : (∃ ch, p = .channelConfig ch) ∨ ∃ ch, p = .guardMode ch) (hr : writeRefusal p v s = none) :
    PinsStill s (storeParam p v s) := by
  intro j
  obtain ⟨ch, rfl⟩ | ⟨ch, rfl⟩ := hp
  · have hchannel : (storeParam (.channelConfig ch) v s).channels[j] =
        if j = ch then { s.channels[ch] with pending := some (configOf v) } else s.channels[j] :=
      getElem_set_channel _ _ _ _
    refine pinDrive_congr rfl ?_ ?_ ?_ (.inl ?_) <;>
    · rw [hchannel]
      split
      next hj => rw [hj]
      next => rfl
  · have hfree : ¬ (s.guard.state = .tripped ∨ s.channels[ch].held = true) := fun hlocked => by
      cases (writeRefusal_guardMode_locked v hlocked).symm.trans hr
    have hchannel : (storeParam (.guardMode ch) v s).channels[j] =
        if j = ch then { s.channels[ch] with guardMode := guardModeOf v } else s.channels[j] :=
      getElem_set_channel _ _ _ _
    by_cases hj : j = ch
    · subst hj
      rw [if_pos rfl] at hchannel
      exact pinDrive_congr rfl (by rw [hchannel]) (by rw [hchannel]) (by rw [hchannel])
        (.inr (by simpa using mt Or.inr hfree))
    · rw [if_neg hj] at hchannel
      exact pinDrive_congr rfl (by rw [hchannel]) (by rw [hchannel]) (by rw [hchannel]) (.inl (by rw [hchannel]))

theorem pinsStill_effectWriteParam {c : Call} {s : State} {p : Param} (hc : paramOf c.a0 = some p)
    (hp : (∃ ch, p = .channelConfig ch) ∨ ∃ ch, p = .guardMode ch) : PinsStill s (effectWriteParam c s).state := by
  have hsame : PinsStill s s := fun _ => rfl
  unfold effectWriteParam
  split
  next =>
    rw [hc]
    dsimp only
    split
    next => exact hsame
    next =>
      split
      next =>
        split
        next => exact hsame
        next hr => exact pinsStill_store hp hr
      next => exact hsame
  next => exact hsame

theorem queueAlert_channels (a : Alert) (s : State) : (queueAlert a s).channels = s.channels := by
  unfold queueAlert
  split <;> rfl

theorem queueAlert_inReset (a : Alert) (s : State) : (queueAlert a s).inReset = s.inReset := by
  unfold queueAlert
  split <;> rfl

theorem pinsStill_effectGuardClear (c : Call) (s : State) : PinsStill s (effectGuardClear c s).state := by
  have hsame : PinsStill s s := fun _ => rfl
  unfold effectGuardClear
  dsimp only
  split
  next =>
    split
    next => exact hsame
    next =>
      split
      next => exact pinsStill_of_same (queueAlert_inReset _ _) (queueAlert_channels _ _)
      next => exact hsame
  next => exact hsame

/-- The agent's own part in a command moves no pin: what its effect leaves still, the command leaves still. -/
theorem pinsStill_takeCommand {code : Byte} {c : Call} {s : State} (hreset : isReset (kindOf code) c = false)
    (heffect : PinsStill s (effectOf (kindOf code) c s).state) : PinsStill s (takeCommand code c s) := by
  have hcount (r : Result) (t : State) : PinsStill t (countResult r t) := by
    unfold countResult
    split
    next => exact fun _ => rfl
    next => exact pinsStill_of_same rfl rfl
  have hsingle (x : Reply) (t : State) : PinsStill t (rememberSingle x.tag x (queueReply x t)) := by
    unfold rememberSingle
    split
    next => exact pinsStill_of_same rfl rfl
    next => exact pinsStill_of_same rfl rfl
  have hgroup (tag : Byte) (t : State) : PinsStill t (rememberGroup tag t) := by
    unfold rememberGroup
    split
    next => exact fun _ => rfl
    next => exact pinsStill_of_same rfl rfl
  unfold takeCommand
  split
  next => exact pinsStill_of_same rfl rfl
  next =>
    unfold repeatReply
    dsimp only
    split
    next => split <;> exact pinsStill_of_same rfl rfl
    next => exact pinsStill_of_same rfl rfl
  next => exact pinsStill_of_same rfl rfl
  next => exact pinsStill_of_same rfl rfl
  next =>
    unfold executeCommand
    rw [hreset]
    dsimp only
    split
    next h => cases h
    next =>
      split
      next =>
        split
        next => exact heffect.trans (hcount _ _)
        next => exact (heffect.trans (hsingle ⟨c.tag, code, _, _, _, _⟩ _)).trans (hcount _ _)
      next => exact (heffect.trans (hgroup _ _)).trans (hcount _ _)
      next => exact (heffect.trans (hgroup _ _)).trans (hcount _ _)

theorem pinsStill_commandStep {code : Byte} {c : Call} {s : State} (hreset : isReset (kindOf code) c = false)
    (heffect : PinsStill s (effectOf (kindOf code) c s).state) :
    ∃ t, commandStep code c s = .next t ∧ PinsStill s t := by
  refine ⟨_, rfl, ?_⟩
  split
  next => exact pinsStill_takeCommand hreset heffect
  next => exact fun _ => rfl

/-- Settles O37: the effects move no pin, and neither does the agent around them. -/
theorem writesAndClearsMoveNoPin : Obligations.WritesAndClearsMoveNoPin := by
  rintro i s (⟨ch, w, rfl⟩ | ⟨ch, w, rfl⟩ | ⟨c, rfl⟩)
  · exact pinsStill_commandStep rfl
      (pinsStill_effectWriteParam (writeCall_paramOf_channelConfig ch w) (.inl ⟨ch, rfl⟩))
  · exact pinsStill_commandStep rfl (pinsStill_effectWriteParam (writeCall_paramOf_guardMode ch w) (.inr ⟨ch, rfl⟩))
  · exact pinsStill_commandStep rfl (pinsStill_effectGuardClear c s)

/-! ## Duplicates and full queues (R156 to R158) -/

section Verdicts
variable {code : Byte} {c : Call} {s : State}

theorem judgeCommand_duplicateSingle (hd : c.dest = .single) (hcode : code ≠ 0x0D) (ht : c.tag ≠ 0)
    (hdup : c.tag = s.agent.stationTag) : judgeCommand code c s = .duplicateSingle := by
  simp only [judgeCommand, hd, if_neg (mt (kindOf_acknowledge code).mp hcode)]
  rw [if_pos ⟨ht, hdup⟩]

theorem judgeCommand_noReplyPlace (hd : c.dest = .single) (hcode : code ≠ 0x0D)
    (hdup : c.tag = 0 ∨ c.tag ≠ s.agent.stationTag) (hfull : 8 ≤ s.ret.replies.length) :
    judgeCommand code c s = .noReplyPlace := by
  have hroom : replyRoom s = false := decide_eq_false (Nat.not_lt.mpr hfull)
  simp only [judgeCommand, hd, if_neg (mt (kindOf_acknowledge code).mp hcode), hroom]
  rw [if_neg (by tauto), if_neg Bool.false_ne_true]

theorem judgeCommand_duplicateGroup (hd : c.dest ≠ .single) (hgroup : groupAllowed (kindOf code) = true)
    (ht : c.tag ≠ 0) (hdup : c.tag = s.agent.groupTag) : judgeCommand code c s = .duplicateGroup := by
  unfold judgeCommand
  split
  next h => exact absurd h hd
  next => rw [hgroup, Bool.not_true, if_neg Bool.false_ne_true, if_pos ⟨ht, hdup⟩]
  next => rw [hgroup, Bool.not_true, if_neg Bool.false_ne_true, if_pos ⟨ht, hdup⟩]

end Verdicts

theorem repeatReply_room {s : State} {r : Reply} (hr : s.agent.stored = some r) (hroom : s.ret.replies.length < 8) :
    repeatReply s = { s with
      flags := s.flags ||| 0x0200
      ret := { s.ret with replies := s.ret.replies ++ [r] } } := by
  have hplace : replyRoom (setFlag .duplicate s) = true := decide_eq_true hroom
  have hstored : (setFlag .duplicate s).agent.stored = some r := hr
  simp only [repeatReply, hplace, hstored, if_true]
  rfl

theorem repeatReply_full {s : State} (hfull : 8 ≤ s.ret.replies.length) :
    repeatReply s = { s with flags := s.flags ||| 0x0200 ||| 0x0080 } := by
  have hplace : replyRoom (setFlag .duplicate s) = false := decide_eq_false (Nat.not_lt.mpr hfull)
  simp only [repeatReply, hplace]
  rfl

/-- Settles O51, by the agent's verdict (R154). -/
theorem duplicatesAndFullReplyQueueStopACommand : Obligations.DuplicatesAndFullReplyQueueStopACommand := by
  refine ⟨fun i code c s hi hat ht => ⟨fun hd hcode hdup => ?single, fun hd hcode hdup => ?group⟩,
    fun i code c s hi hat hd hcode hdup hfull => ?noPlace⟩
  all_goals rw [exec_commandRecord hi, commandStep_atCompletion code c s hat]
  case single =>
    have htake : takeCommand code c s = repeatReply s := by
      rw [takeCommand, judgeCommand_duplicateSingle hd hcode ht hdup]
    rw [htake]
    exact ⟨fun r hr hroom => congrArg _ (repeatReply_room hr hroom), fun hfull => congrArg _ (repeatReply_full hfull)⟩
  case group =>
    rw [takeCommand, judgeCommand_duplicateGroup hd ((groupAllowed_iff code).mpr hcode) ht hdup]
    rfl
  case noPlace =>
    rw [takeCommand, judgeCommand_noReplyPlace hd hcode hdup hfull]
    rfl

/-! ## WRITE-PARAM (R164, R174, R175) -/

section Plain
variable {c : Call} {s : State}

theorem exec_writeParam (hx : Executes c.dest c.tag s) {e : Effect} (he : effectWriteParam c s = e) :
    exec (.writeParam c) s = .next (ending c.dest c.tag 0x03 e.result e.d0 e.d1 e.d2 e.state) :=
  exec_executes rfl hx (by decide) (by decide) (fun _ => rfl) he

theorem effectWriteParam_unknown (h2 : c.a2 = 0) (h3 : c.a3 = 0) (hp : paramOf c.a0 = none) :
    effectWriteParam c s = ⟨s, .unknown, c.a0, 0, 0⟩ := by
  simp [effectWriteParam, h2, h3, hp]

theorem effectWriteParam_readOnly {p : Param} (h2 : c.a2 = 0) (h3 : c.a3 = 0) (hp : paramOf c.a0 = some p)
    (hw : paramReadOnly p = true) : effectWriteParam c s = ⟨s, .locked, c.a0, paramValue p s, paramValue p s⟩ := by
  simp [effectWriteParam, h2, h3, hp, hw]

/-- What the table says of a plain number: the parameter it names, its range and its store. -/
structure PlainParam (p : Param) (n least greatest : Nat) : Prop where
  writable : paramReadOnly p = false
  admits : ∀ v : Word, paramAdmits p v = true ↔ least ≤ v.toNat ∧ v.toNat ≤ greatest
  free : ∀ (v : Word) (s : State), writeRefusal p v s = none
  stored : ∀ (v : Word) (s : State), storeParam p v s = { s with params := plainStored s.params v n }

theorem plainParam_of_number {number : Word} {least greatest : Nat}
    (h : plainRange number.toNat = some (least, greatest)) :
    ∃ p, paramOf number = some p ∧ PlainParam p number.toNat least greatest := by
  obtain ⟨n, hn⟩ : ∃ n, number.toNat = n := ⟨_, rfl⟩
  obtain rfl : number = BitVec.ofNat 16 n := by rw [← hn, BitVec.ofNat_toNat, BitVec.setWidth_eq]
  rw [hn] at h ⊢
  unfold plainRange at h
  split at h <;> cases h
  · exact ⟨.coastLimit, rfl, rfl, fun v => by simp [paramAdmits], fun _ _ => rfl, fun _ _ => rfl⟩
  · exact ⟨.quickConfirm, rfl, rfl, fun v => by simp [paramAdmits], fun _ _ => rfl, fun _ _ => rfl⟩
  · exact ⟨.retryInterval, rfl, rfl, fun v => by simp [paramAdmits], fun _ _ => rfl, fun _ _ => rfl⟩
  · exact ⟨.retryLimit, rfl, rfl, fun v => by simp [paramAdmits], fun _ _ => rfl, fun _ _ => rfl⟩
  · exact ⟨.confirmCount, rfl, rfl, fun v => by simp [paramAdmits], fun _ _ => rfl, fun _ _ => rfl⟩
  · refine ⟨.edgeModes, rfl, rfl, fun v => ?_, fun _ _ => rfl, fun _ _ => rfl⟩
    have := v.isLt
    simp [paramAdmits]
    omega
  · refine ⟨.groups, rfl, rfl, fun v => ?_, fun _ _ => rfl, fun _ _ => rfl⟩
    have := v.isLt
    simp [paramAdmits]
    omega

theorem readOnly_of_number {number : Word} (hlow : 60 ≤ number.toNat) (hhigh : number.toNat ≤ 62) :
    ∃ p, paramOf number = some p ∧ paramReadOnly p = true := by
  obtain ⟨n, hn⟩ : ∃ n, number.toNat = n := ⟨_, rfl⟩
  obtain rfl : number = BitVec.ofNat 16 n := by rw [← hn, BitVec.ofNat_toNat, BitVec.setWidth_eq]
  rw [hn] at hlow hhigh
  interval_cases n
  · exact ⟨.address, rfl, rfl⟩
  · exact ⟨.identity, rfl, rfl⟩
  · exact ⟨.revision, rfl, rfl⟩

end Plain

/-- Settles O53, by what the number names in the table. -/
theorem writeParamStoresWithinItsRange : Obligations.WriteParamStoresWithinItsRange := by
  refine fun c s _ hx => ⟨fun least greatest old h2 h3 hrange hold => ?plain,
    fun old h2 h3 hlow hhigh hold => ?readOnly, fun h2 h3 hnone => ?unknown, fun h => ?arguments⟩
  case plain =>
    obtain ⟨p, hp, hplain⟩ := plainParam_of_number hrange
    rw [tableValue_eq, hp] at hold
    cases hold
    refine ⟨fun hl hg => ?_, fun hout => ?_⟩
    · rw [← hplain.stored]
      exact exec_writeParam hx (effectWriteParam_done h2 h3 hp hplain.writable ((hplain.admits _).mpr ⟨hl, hg⟩)
        (hplain.free _ _))
    · have hno : paramAdmits p c.a1 = false := by
        rw [← Bool.not_eq_true, hplain.admits]
        omega
      exact exec_writeParam hx (effectWriteParam_range h2 h3 hp hplain.writable hno)
  case readOnly =>
    obtain ⟨p, hp, hro⟩ := readOnly_of_number hlow hhigh
    rw [tableValue_eq, hp] at hold
    cases hold
    exact exec_writeParam hx (effectWriteParam_readOnly h2 h3 hp hro)
  case unknown =>
    rw [tableValue_eq, Option.map_eq_none_iff] at hnone
    exact exec_writeParam hx (effectWriteParam_unknown h2 h3 hnone)
  case arguments => exact exec_writeParam hx (effectWriteParam_arguments h)

/-! ## The blocks after a reset, and RESET-STATION (R6, R169 to R172) -/

theorem startBank_eq (i : Fin 128) : startBank[i] = startEntry i := by
  revert i
  decide

/-- Blocks in their reset values stand as the tables of chapter 1 give them. -/
theorem blocksReset_of {t : State} (hplan : t.plan = planReset) (hheld : t.engine = engineReset)
    (hchannels : t.channels = channelsReset) (hsampler : t.sampler = samplerReset) (hret : t.ret = returnReset)
    (hflags : t.flags = 0) (hcounters : t.counters = countersReset) : BlocksReset t where
  bank0 i := by rw [hplan]; exact startBank_eq i
  bank1 i := by rw [hplan]; exact startBank_eq i
  active := by rw [hplan]; rfl
  commit := by rw [hplan]; rfl
  held := by rw [hheld]; rfl
  channels i := by simp [hchannels, channelsReset, channelReset, resetChannel, configReset]
  firstSample := by rw [hsampler]; rfl
  inputs i := by simp [hsampler, samplerReset, inputReset]
  ret := by rw [hret]; rfl
  flags := hflags
  counters := by rw [hcounters]; rfl

section Reset
variable {c : Call} {s : State}

theorem exec_resetStation_done (hx : Executes c.dest c.tag s) (ha : NoArguments c) :
    exec (.resetStation c) s = .next (executeReset c.dest c.tag s) := by
  have hjudge := judgeCommand_executed (code := 0x10) hx (fun _ => rfl)
  have hreset : isReset (kindOf 0x10) c = true := (noArguments_iff c).mpr ha
  refine (commandStep_atCompletion 0x10 c s hx.1).trans (congrArg _ ?_)
  rw [takeCommand, hjudge]
  exact if_pos hreset

theorem exec_resetStation_range (hx : Executes c.dest c.tag s) (ha : ¬ NoArguments c) :
    exec (.resetStation c) s = .next (ending c.dest c.tag 0x10 .range 0 0 0 s) :=
  have hreset : isReset (kindOf 0x10) c = false := (noArguments_false_iff c).mpr ha
  commandStep_executes (code := 0x10) hx (by decide) hreset (fun _ => rfl) (refuse .range s) rfl

end Reset

theorem lastNumber_guard (s : State) :
    (stationReset s).guard = ⟨.tripped, causeSet .reset, lastAccepted s, .reset⟩ := by
  rw [← lastNumber_eq]
  rfl

/-- Settles O56, by the destination; a repeated tag finds the reply the first one stored. -/
theorem resetStationResetsAllButTheRing : Obligations.ResetStationResetsAllButTheRing := by
  refine ⟨fun c s hx => ⟨fun ha => ?reset, exec_resetStation_range hx⟩, fun c s t hd ht hx ha hexec => ?again⟩
  case reset =>
    refine ⟨_, exec_resetStation_done hx ha, ?_⟩
    cases c.dest with
    | single =>
      exact ⟨blocksReset_of rfl rfl rfl rfl rfl rfl rfl, rfl, lastNumber_guard s, rfl, rfl, rfl, rfl, rfl⟩
    | group | all =>
      exact ⟨blocksReset_of rfl rfl rfl rfl rfl rfl rfl, rfl, lastNumber_guard s, rfl, rfl, rfl, rfl, rfl⟩
  case again =>
    rw [exec_resetStation_done hx ha, hd] at hexec
    cases hexec
    have hstored : (executeReset .single c.tag s).agent.stored = some (resetReply c.tag (stationReset s)) := if_neg ht
    have hat : atCompletion (executeReset .single c.tag s) = true := hx.1
    have hdup := judgeCommand_duplicateSingle (code := 0x10) (s := executeReset .single c.tag s) hd (by decide) ht rfl
    have htake : takeCommand 0x10 c (executeReset .single c.tag s) = repeatReply (executeReset .single c.tag s) := by
      rw [takeCommand, hdup]
    refine (commandStep_atCompletion 0x10 c _ hat).trans (congrArg _ ?_)
    have hreplies : [resetReply c.tag (stationReset s)] = (executeReset .single c.tag s).ret.replies := rfl
    have hflags : (executeReset .single c.tag s).flags ||| 0x0200 = 0x0200 := by
      rw [show (executeReset .single c.tag s).flags = 0 from rfl]
      decide
    rw [htake, repeatReply_room hstored (show 1 < 8 by decide), hreplies, hflags]

end Sys2Proof.Machine
end

section
/-! PROOFS. The queue of commands, the rows taken outside their moment, the resets, a station held in reset, and the event
rows at a marker: swap, apply instant, retry test, the GUARD pin, a lost EVENT. -/

namespace Sys2Proof.Machine

open Sys2Proof.Safety

/-! ## The queue of commands -/

/-- Settles O1: the two branches of a step. -/
theorem stepRunsTheFrontCommand : Obligations.StepRunsTheFrontCommand := by
  refine ⟨fun c rest s => rfl, fun s hempty => ?_⟩
  rw [step, hempty]

/-! ## Rows outside their moment (R30, R33, R42, R75, R132; log 2, 3, 20, 21) -/

section Moments
variable {s : State}

theorem trailerDue_iff (c : Cycle) : trailerDue c = true ↔
    c.accepted = true ∧ c.status = .running ∧ c.checkFault = false ∧ c.pos + 1 = 8 * c.slots + 3 := by
  simp [trailerDue, trailerPos, and_assoc]

theorem exec_cycleCompleted_notDue (amid : List (List Amid))
    (h : ∀ c, s.framer.cycle = some c → ¬ (followsRing s = true ∧ trailerDue c = true)) :
    exec (.cycleCompleted amid) s = .next s := by
  show execCycleCompleted amid s = _
  unfold execCycleCompleted
  split
  next c hc => rw [if_neg (by simpa using h c hc)]
  next => rfl

theorem exec_recordSent_resending (h : s.ret.resendAt ≠ none) : exec .recordSent s = .next s := by
  show execRecordSent s = _
  unfold execRecordSent
  split
  next => rw [if_neg (by simpa using h)]
  next => rfl

theorem exec_recordResent_notResending (h : s.ret.resendAt = none) : exec .recordResent s = .next s := by
  show execRecordResent s = _
  unfold execRecordResent
  split
  next => rw [h]; rfl
  next => rfl

theorem sendNew_full (cls : OfferClass) (h : s.params.returnWindow.toNat ≤ s.ret.inFlight.length) :
    sendNew cls s = (s, none) :=
  if_pos h

theorem sendNew_empty (cls : OfferClass) (hr : s.ret.replies = []) (he : s.ret.events = []) :
    sendNew cls s = (s, none) := by
  simp only [sendNew, hr, he, ite_self]

theorem offerAction_serveNothing {cls : OfferClass} (n : Nat) (sl : Slot) (h : serveOffer cls s = (s, none)) :
    offerAction cls n sl s = s := by
  unfold offerAction
  split
  next => rfl
  next => rw [h]

theorem exec_recordSent_nothing (h : ∀ cls, sendNew cls s = (s, none)) : exec .recordSent s = .next s := by
  by_cases hr : s.ret.resendAt = none
  · show execRecordSent s = _
    unfold execRecordSent
    split
    next n sl cls _ =>
      rw [offerAction_serveNothing n sl ((serveOffer_sendNew hr).trans (h cls)), ite_self]
    next => rfl
  · exact exec_recordSent_resending hr

/-- Settles O3, row by row. -/
theorem rowsOutsideTheirMomentChangeNothing : Obligations.RowsOutsideTheirMomentChangeNothing := by
  refine fun s => ⟨fun i hi hat => ?command, fun hat => ⟨fun m => ?swap, ?apply, ?retry⟩, fun hw => ?missed,
    fun hnot amid => exec_cycleCompleted_notDue amid fun c hc => ?completed, fun ho => ⟨?sent, ?resent⟩,
    exec_recordSent_resending, exec_recordResent_notResending, fun hnone => exec_recordSent_nothing fun cls => ?nothing⟩
  case command =>
    obtain ⟨record, hrecord⟩ := Option.ne_none_iff_exists'.mp hi
    rw [exec_commandRecord hrecord, commandStep, hat, if_neg Bool.false_ne_true]
  case swap => exact congrArg _ (if_neg (Bool.eq_false_iff.mp hat))
  case apply => exact congrArg _ (if_neg (Bool.eq_false_iff.mp hat))
  case retry => exact congrArg _ (if_neg (Bool.eq_false_iff.mp hat))
  case missed => exact congrArg _ (if_neg (Bool.eq_false_iff.mp hw))
  case completed =>
    rw [followsRing_iff, ← follows_iff, trailerDue_iff]
    rintro ⟨⟨hrun, hfollows⟩, hacc, hstatus, hfault, hpos⟩
    obtain hreset | hf | hcycle := hnot
    · exact absurd hreset (by rw [hrun]; exact Bool.false_ne_true)
    · exact absurd hfollows (by rw [hf]; exact Bool.false_ne_true)
    · obtain h | h | h | h := hcycle c hc
      · exact absurd hacc (by rw [h]; exact Bool.false_ne_true)
      · exact h hstatus
      · exact absurd h (by rw [hfault]; exact Bool.false_ne_true)
      · exact h hpos
  case sent =>
    show execRecordSent s = _
    rw [execRecordSent, ho]
  case resent =>
    show execRecordResent s = _
    rw [execRecordResent, ho]
  case nothing =>
    obtain hfull | ⟨hr, he⟩ := hnone
    · exact sendNew_full cls hfull
    · exact sendNew_empty cls hr he

end Moments

/-! ## The resets (R3, R5, R6) -/

/-- While idle places stand at the front of the delay line, IDLE leaves (R3). -/
theorem foldl_forwardItem_tx (items : List Item) (f : Forward) (k : Nat) (newer : List Cell)
    (hline : f.line = List.replicate k (plainCell .idle) ++ newer) (htx : f.tx = .idle) (hk : items.length ≤ k) :
    (items.foldl (fun f item => forwardItem item f) f).tx = .idle := by
  induction items generalizing f k newer with
  | nil => exact htx
  | cons item items ih =>
    obtain ⟨k, rfl⟩ := Nat.exists_eq_succ_of_ne_zero (Nat.ne_of_gt (Nat.lt_of_lt_of_le (Nat.succ_pos _) hk))
    have hshift : forwardItem item f = ⟨(List.replicate k (plainCell .idle) ++ newer) ++
        [⟨item, none, none, (passKept f.kept).2, false⟩], .idle, (passKept f.kept).1⟩ := by
      unfold forwardItem
      rw [hline]
      rfl
    refine ih (forwardItem item f) k (newer ++ [⟨item, none, none, (passKept f.kept).2, false⟩]) ?_ ?_
      (Nat.le_of_succ_le_succ hk)
    · rw [hshift, List.append_assoc]
    · rw [hshift]

/-- Settles O4: the two rows' states, field by field. -/
theorem powerUpAndResetPinHoldTheStation : Obligations.PowerUpAndResetPinHoldTheStation := by
  refine ⟨fun s => ⟨powerUpState s, rfl, blocksReset_of rfl rfl rfl rfl rfl rfl rfl, ?held, rfl, rfl, fun items hn => ?idle,
      rfl, rfl, rfl, rfl, rfl, fun i => pinDrive_of_inReset ?held⟩,
    fun s => ⟨assertReset s, rfl, blocksReset_of rfl rfl rfl rfl rfl rfl rfl, fun i => pinDrive_of_inReset rfl, rfl, rfl,
      rfl, rfl, rfl, rfl, ?arrived, forwardAtAssertion_tx s.framer.cycle s.fwd⟩⟩
  case held => exact Bool.or_true _
  case idle => exact foldl_forwardItem_tx items forwardAtPowerUp 12 [] rfl rfl hn
  case arrived =>
    show (forwardAtAssertion s.framer.cycle s.fwd).line.map Cell.arrived = _
    rw [forwardAtAssertion_line, map_arrived_withdrawCells]

theorem channelsReset_config (i : Fin 8) : channelsReset[i].config.enable = false := by
  revert i; decide

/-- Settles O5: the released state, field by field, on a held station or on a short assertion. -/
theorem hardwareResetTakesTheTableOfResetStates : Obligations.HardwareResetTakesTheTableOfResetStates := by
  refine fun straps s => ⟨releaseReset straps (if s.inReset then s else assertReset s), rfl,
    blocksReset_of rfl rfl rfl rfl rfl rfl rfl, rfl, addressOf_toNat straps, rfl, rfl, rfl, rfl, rfl, rfl, ?pins, rfl,
    fun hheld => ?line, fun i => pinDrive_of_disabled rfl (channelsReset_config i)⟩
  case pins => cases h : s.inReset <;> rfl
  case line => rw [hheld]; rfl

/-! ## A station held in reset (R5) -/

theorem setGuardPin_of_inReset {s : State} (high : Bool) (h : s.inReset = true) :
    setGuardPin high s = { s with pins := { s.pins with guardHigh := high } } := by
  unfold setGuardPin
  rw [h]
  rfl

theorem followsRing_of_inReset {s : State} (h : s.inReset = true) : followsRing s = false := by
  rw [followsRing, h]
  rfl

theorem offeredSlot_of_not_followsRing {s : State} (h : followsRing s = false) : offeredSlot s = none := by
  unfold offeredSlot
  rw [h]
  split <;> rfl

/-- Settles O6: a held station stands at no row's moment. -/
theorem heldStationOnlyForwards : Obligations.HeldStationOnlyForwards := by
  refine fun s hheld => ⟨fun item inputs => ?item, ⟨_, congrArg _ (setGuardPin_of_inReset _ hheld)⟩,
    ⟨_, congrArg _ (setGuardPin_of_inReset _ hheld)⟩, fun i hi => ?row⟩
  case item =>
    rw [exec_itemReceived_calm item inputs s (by simp), takeItem_of_inReset hheld]
    rfl
  case row =>
    have hring := followsRing_of_inReset hheld
    obtain ⟨hcommand, hmarker, hmissed, hcompleted, hoffered, -⟩ := rowsOutsideTheirMomentChangeNothing s
    obtain ⟨hswap, happly, hretry⟩ := hmarker (by rw [atMarker, hring]; rfl)
    obtain ⟨hsent, hresent⟩ := hoffered (offeredSlot_of_not_followsRing hring)
    obtain hrow | ⟨amid, rfl⟩ | rfl | ⟨m, rfl⟩ | rfl | rfl | rfl | rfl := hi
    · exact hcommand i hrow (by rw [atCompletion, hheld]; rfl)
    · exact hcompleted (.inl hheld) amid
    · exact hmissed (by rw [windowReached, hring]; rfl)
    · exact hswap m
    · exact happly
    · exact hsent
    · exact hresent
    · exact hretry

/-! ## The comparison and the swap (R51, R52) -/

section Marker
variable {number target : Word} {s : State}

theorem commitTest_noCommit (h : s.plan.commit = none) : commitTest number s = (s, []) := by
  rw [commitTest, h]

theorem commitTest_early (h : s.plan.commit = some target) (he : 32768 ≤ (number - target).toNat) :
    commitTest number s = (s, []) := by
  have hbefore : atOrAfter number target = false := decide_eq_false (by omega)
  simp only [commitTest, h, hbefore, Bool.false_eq_true, if_false]

theorem commitTest_swap (h : s.plan.commit = some target) (ht : (number - target).toNat ≤ 32767) :
    commitTest number s = ({ s with plan := { s.plan with
        active := if s.plan.active = .zero then .one else .zero, commit := none } },
      [.alert ⟨.planCommitted, number, if s.plan.active = .zero then 1 else 0, target⟩]) := by
  have hafter : atOrAfter number target = true := decide_eq_true ht
  simp only [commitTest, h, hafter, if_true, standby]
  cases s.plan.active <;> rfl

theorem exec_planSwap (hat : atMarker s = true) :
    exec (.planSwap number) s = .next (queueAll (commitTest number s).2 (commitTest number s).1) :=
  congrArg _ (if_pos hat)

theorem queueAll_alert (k : AlertKind) (c d0 d1 : Word) : queueAll [.alert ⟨k, c, d0, d1⟩] s = alerted k c d0 d1 s :=
  queueAlert_eq k c d0 d1 s

/-- Settles O23, by the outcome of the comparison. -/
theorem swapAtOrAfterTheTarget : Obligations.SwapAtOrAfterTheTarget := by
  intro number s hat
  rw [exec_planSwap hat]
  refine ⟨fun target hc ht => ⟨fun ha => ?zero, fun ha => ?one⟩, fun target hc he => ?early, fun hc => ?none⟩
  case zero =>
    rw [commitTest_swap hc ht, ha]
    exact congrArg _ (queueAll_alert ..)
  case one =>
    rw [commitTest_swap hc ht, ha]
    exact congrArg _ (queueAll_alert ..)
  case early => rw [commitTest_early hc he]; rfl
  case none => rw [commitTest_noCommit hc]; rfl

/-! ## The apply instant (R85, R89, R90) -/

theorem applyInstant_eq (s : State) : applyInstant s =
    { s with channels := Vector.ofFn fun i => appliedChannel s.guard.state s.channels[i] } := by
  unfold applyInstant mapChannels
  simp only [applyChannel_eq]
  rfl

/-- Settles O34, channel by channel. -/
theorem applyInstantAppliesAndReleases : Obligations.ApplyInstantAppliesAndReleases := fun s hat =>
  (congrArg Host.Outcome.next (if_pos hat)).trans (congrArg _ (applyInstant_eq s))

/-! ## The retry test (R137 to R141) -/

variable {oldest newest : Sent} {rest : List Sent}

theorem retryTest_none (h : s.ret.resendAt ≠ none ∨ s.ret.inFlight = []) : retryTest s = (s, []) := by
  unfold retryTest
  split
  next => rfl
  next => rfl
  next hr hl => simp [hr, hl] at h

theorem retryTest_young (hr : s.ret.resendAt = none) (hl : s.ret.inFlight = oldest :: rest)
    (hage : (s.framer.acceptedCount - oldest.lastSend).toNat < s.params.retryInterval.toNat) :
    retryTest s = (s, []) := by
  simp only [retryTest, hr, hl, retryAge, hage, if_true]

theorem retryTest_resend (hr : s.ret.resendAt = none) (hl : s.ret.inFlight = oldest :: rest)
    (hage : s.params.retryInterval.toNat ≤ (s.framer.acceptedCount - oldest.lastSend).toNat)
    (hlimit : oldest.resends < s.params.retryLimit.toNat) :
    retryTest s = ({ s with ret := { s.ret with resendAt := some 0 } }, []) := by
  simp only [retryTest, hr, hl, retryAge, if_neg (Nat.not_lt.mpr hage), if_pos hlimit]
  rfl

theorem getLast_getD_of_cons (h : (oldest :: rest).getLast? = some newest) :
    (rest.getLast?).getD oldest = newest := by
  rw [List.getLast?_cons] at h
  exact Option.some.inj h

theorem retryTest_abandon (hr : s.ret.resendAt = none) (hl : s.ret.inFlight = oldest :: rest)
    (hn : s.ret.inFlight.getLast? = some newest)
    (hage : s.params.retryInterval.toNat ≤ (s.framer.acceptedCount - oldest.lastSend).toNat)
    (hlimit : s.params.retryLimit.toNat ≤ oldest.resends) :
    retryTest s = ({ s with
        ret := { s.ret with inFlight := [] }
        flags := s.flags ||| 0x2000
        counters := { s.counters with abandoned := bump s.counters.abandoned s.ret.inFlight.length } },
      [.alert ⟨.returnAbandoned, lastAccepted s, oldest.seq.setWidth 16, newest.seq.setWidth 16⟩]) := by
  have hlast := getLast_getD_of_cons (hl ▸ hn)
  unfold retryTest
  simp only [hr, hl, retryAge, if_neg (Nat.not_lt.mpr hage), if_neg (Nat.not_lt.mpr hlimit), abandonedAlert, hlast,
    lastNumber_eq, abandonAll, countAbandoned_eq]
  rfl

theorem exec_retryExpiry (hat : atMarker s = true) :
    exec .retryExpiry s = .next (queueAll (retryTest s).2 (retryTest s).1) :=
  congrArg _ (if_pos hat)

/-- Settles O46, by the outcome of the test. -/
theorem retryExpiryResendsOrAbandons : Obligations.RetryExpiryResendsOrAbandons := by
  intro oldest newest rest s hat hr hl hn
  rw [exec_retryExpiry hat]
  refine ⟨fun hage hlimit => ?resend, fun hage hlimit => ?abandon, fun hage => ?young⟩
  case resend => rw [retryTest_resend hr hl hage hlimit]; rfl
  case abandon =>
    rw [retryTest_abandon hr hl hn hage hlimit]
    exact congrArg _ (queueAll_alert ..)
  case young => rw [retryTest_young hr hl hage]; rfl

end Marker

/-! ## The GUARD pin (R103) -/

theorem lineActive_level (s : State) (high : Bool) :
    lineActive { s with pins := { s.pins with guardHigh := high } } =
      (if s.params.guardPolarity = 0 then !high else high) := rfl

theorem lineActive_activeLevel (s : State) :
    lineActive { s with pins := { s.pins with guardHigh := s.params.guardPolarity != 0 } } = true := by
  rw [lineActive_level]
  split
  next h => rw [h]; rfl
  next h => exact bne_iff_ne.mpr h

theorem lineActive_inactiveLevel (s : State) :
    lineActive { s with pins := { s.pins with guardHigh := s.params.guardPolarity == 0 } } = false := by
  rw [lineActive_level]
  split
  next h => rw [h]; rfl
  next h => exact beq_eq_false_iff_ne.mpr h

theorem setGuardPin_trips {s : State} {high : Bool} (hrun : s.inReset = false) (hbefore : lineActive s = false)
    (hafter : lineActive { s with pins := { s.pins with guardHigh := high } } = true) :
    setGuardPin high s = tripped .line { s with pins := { s.pins with guardHigh := high } } := by
  rw [← linePresent_eq] at hbefore hafter
  have hlevel : linePresent (s.putPins { s.pins with guardHigh := high }) = true := hafter
  simp only [setGuardPin, hrun, hbefore, hlevel, trip_eq]
  rfl

theorem setGuardPin_still {s : State} {high : Bool}
    (h : lineActive s = true ∨ lineActive { s with pins := { s.pins with guardHigh := high } } = false) :
    setGuardPin high s = { s with pins := { s.pins with guardHigh := high } } := by
  refine if_neg ?_
  rw [linePresent_eq, linePresent_eq, Bool.and_eq_true, Bool.and_eq_true, Bool.not_eq_true', Bool.not_eq_true']
  rintro ⟨⟨-, hbefore⟩, hafter⟩
  obtain h | h := h
  · exact absurd h (by rw [hbefore]; exact Bool.false_ne_true)
  · exact absurd (hafter.symm.trans h) (by decide)

/-- Settles O38, by the level before and after. -/
theorem guardPinLevelsTripAndEndLine : Obligations.GuardPinLevelsTripAndEndLine := by
  refine ⟨fun s hrun => ⟨fun hbefore => ?trips, fun hbefore => ?still⟩,
    fun s => ⟨?inactive, lineActive_inactiveLevel s⟩⟩
  case trips => exact congrArg _ (setGuardPin_trips hrun hbefore (lineActive_activeLevel s))
  case still => exact congrArg _ (setGuardPin_still (.inl hbefore))
  case inactive => exact congrArg _ (setGuardPin_still (.inr (lineActive_inactiveLevel s)))

/-! ## An EVENT handed over (R123 to R125) -/

theorem queueEvent_admitted {e : Event} {s : State} (h : s.ret.events.length < 14) :
    queueEvent e s = { s with ret := { s.ret with events := s.ret.events ++ [.event e] } } :=
  if_pos h

theorem queueOverflow_eq (s : State) : queueOverflow s = { s with ret := { s.ret with
    events := if Waiting.overflow ∉ s.ret.events ∧ s.ret.events.length < 16 then s.ret.events ++ [.overflow]
      else s.ret.events } } := by
  unfold queueOverflow Config.eventPlaces
  split <;> rfl

/-- Settles O43, by the number of records that wait. -/
theorem eventIsAdmittedBelowFourteenElseLost : Obligations.EventIsAdmittedBelowFourteenElseLost := by
  refine fun e s => ⟨queueEvent_admitted, fun h => ?lost⟩
  refine (if_neg (Nat.not_lt.mpr h)).trans ?_
  rw [queueOverflow_eq, countEventLost_eq, recordLoss, addSaturating_eq_bump]
  rfl

/-! ## The state after reset -/

/-- Settles O60, law by law. -/
theorem resetStateMeetsEveryLaw : Obligations.ResetStateMeetsEveryLaw :=
  ⟨guardLaw_reset rfl rfl (by decide),
    (inFlightLaw_iff _).mpr ⟨by decide, inFlightOrder_nil rfl rfl⟩,
    ⟨by decide, by decide, by decide, by decide, by decide⟩,
    ⟨fun _ => rfl, fun h => absurd rfl h⟩,
    paramLaw_defaults rfl (by decide),
    configLaw_reset rfl rfl,
    (framerLaw_iff _).mpr ⟨by decide, framerOrder_reset⟩,
    rfl,
    by unfold SpareFlagsLaw; decide⟩

end Sys2Proof.Machine
end

section
/-! PROOFS. The delay line: what a rewritten slot and a trailer leave as (R62, R73), and what an asserted reset leaves of both
(R4, R78). -/

namespace Sys2Proof.Machine

open Sys2Proof.Safety

variable {s : State}

/-! ## The item that arrives (R2, R4) -/

theorem forwardItem_line (item : Item) (f : Forward) :
    (forwardItem item f).line = f.line.tail ++ [⟨item, none, none, (passKept f.kept).2, false⟩] := by
  unfold forwardItem
  dsimp only
  split
  next h => rw [h]; rfl
  next h => rw [h]; rfl

theorem forwardItem_kept (item : Item) (f : Forward) : (forwardItem item f).kept = (passKept f.kept).1 := by
  unfold forwardItem
  dsimp only
  split <;> rfl

theorem forwardItem_getLast? (item : Item) (f : Forward) :
    (forwardItem item f).line.getLast? = some ⟨item, none, none, (passKept f.kept).2, false⟩ := by
  rw [forwardItem_line, List.getLast?_concat]

/-- A place that is not rewritten leaves as it arrived, a WORD with the place's adjustment added. -/
theorem leavingItem_adjusted (item : Item) (change : Option Word) (w : Word) (trailer : Bool) :
    leavingItem ⟨item, none, change, w, trailer⟩ = match item with
      | .word v => .word (v + w)
      | .marker => .marker
      | .idle => .idle
      | .fault => .fault := by
  cases item <;> rfl

theorem leavingItem_arrived (item : Item) (change : Option Word) (trailer : Bool) :
    leavingItem ⟨item, none, change, 0, trailer⟩ = item := by
  cases item with
  | word v => exact congrArg Item.word (BitVec.add_zero v)
  | marker | idle | fault => rfl

/-! ## A rewritten slot (R60, R62) -/

theorem leavingItem_rewritten {c : Cell} {v : Word} (w : Word) (hv : c.arrived = .word v) (ha : c.adjust = 0)
    (change : Option Word) : leavingItem { c with rewritten := some w, change := change } = .word w := by
  rw [leavingItem, hv]
  show Item.word (w + c.adjust) = _
  rw [ha]
  exact congrArg Item.word (BitVec.add_zero w)

theorem map_leavingItem_zip (cells : List Cell) (words : List Word) (hlen : cells.length = words.length)
    (h : ∀ c ∈ cells, (∃ v, c.arrived = .word v) ∧ c.adjust = 0) :
    ((cells.zip words).map fun (c, w) => { c with rewritten := some w }).map leavingItem = words.map Item.word := by
  induction cells generalizing words with
  | nil => rw [List.length_eq_zero_iff.mp hlen.symm]; rfl
  | cons c cells ih =>
    obtain ⟨w, words, rfl⟩ := List.exists_cons_of_length_eq_add_one hlen.symm
    obtain ⟨⟨v, hv⟩, ha⟩ := h c (.head _)
    rw [List.zip_cons_cons, List.map_cons, List.map_cons, List.map_cons, leavingItem_rewritten w hv ha,
      ih words (Nat.succ_inj.mp hlen) fun d hd => h d (.tail _ hd)]

theorem map_leavingItem_rewriteCells (cells : List Cell) (words : List Word) (change : Word)
    (hlen : cells.length = words.length) (h : ∀ c ∈ cells, (∃ v, c.arrived = .word v) ∧ c.adjust = 0) :
    (rewriteCells cells words change).map leavingItem = words.map Item.word := by
  cases cells with
  | nil => rw [List.length_eq_zero_iff.mp hlen.symm]; rfl
  | cons c cells =>
    obtain ⟨w, words, rfl⟩ := List.exists_cons_of_length_eq_add_one hlen.symm
    obtain ⟨⟨v, hv⟩, ha⟩ := h c (.head _)
    rw [rewriteCells, List.zip_cons_cons]
    dsimp only
    rw [List.map_cons, List.map_cons, leavingItem_rewritten w hv ha,
      map_leavingItem_zip cells words (Nat.succ_inj.mp hlen) fun d hd => h d (.tail _ hd)]

/-- Settles O10, by the sum in the check and the eight places of the slot. -/
theorem rewrittenSlotLeavesWholeWithItsCheckChange : Obligations.RewrittenSlotLeavesWholeWithItsCheckChange := by
  refine ⟨fun n sl header p hundamaged => ⟨?change, ?undamaged⟩, fun f words change hline hwords hcells => ?leaves⟩
  case change =>
    rw [slotCheck_eq, hundamaged.1]
    exact sub_sub_sub_cancel_left _ _ _
  case undamaged => simp [slotDamaged]
  case leaves =>
    have hbefore : f.line.length - 8 = 4 := by rw [hline]
    have htake : (f.line.take 4).length = 4 := by rw [List.length_take, hline]; rfl
    have hrewritten : (rewriteSlot words change f).line =
        f.line.take 4 ++ rewriteCells (f.line.drop 4) words change := by
      rw [← hbefore]
      rfl
    refine ⟨?_, ?_, map_arrived_rewriteSlot change f hwords, rfl⟩
    · rw [hrewritten, List.drop_left' htake]
      exact map_leavingItem_rewriteCells _ _ _ (by rw [List.length_drop, hline, hwords]) hcells
    · rw [hrewritten, List.take_left' htake]

/-! ## The trailer (R73) -/

/-- Nothing but the framer and the slot engine reach into the delay line. -/
theorem Changes.fwd_still {t : State} (h : Changes (· ∉ [Origin.shift, .rewriting, .hardware]) s t) : t.fwd = s.fwd :=
  h.same (Change.fwd_eq (by simp) (by simp) (by simp))

theorem takeAmids_fwd (as : List Amid) (s : State) : (takeAmids as s).fwd = s.fwd :=
  (changes_takeAmids (by simp) as s).fwd_still

theorem failed_cycle (f : Framer) : (failed f).cycle = f.cycle := by
  unfold failed
  split <;> rfl

theorem spoilCycle_fwd (c : Cycle) (s : State) : (spoilCycle c s).fwd = s.fwd :=
  Changes.fwd_still (changes_spoilCycle (by simp) c s)

theorem adjustTrailer_concat (net : Word) {f : Forward} {before : List Cell} {c : Cell} (h : f.line = before ++ [c]) :
    (adjustTrailer net f).line = before ++ [{ c with adjust := c.adjust + net, trailer := true }] := by
  unfold adjustTrailer
  rw [h, List.getLast?_concat]
  simp

/-- What the framer and the slot engine do to the delay line at the trailer position of an accepted cycle; a MARKER in HUNT
cuts a spoiled cycle short there (R30, R36). -/
theorem frameItem_trailer_fwd {c : Cycle} (item : Item) (hj : s.framer.judging = none) (hc : s.framer.cycle = some c)
    (hacc : c.accepted = true) (hpos : c.pos + 1 = trailerPos c) :
    (frameItem item s).fwd = adjustTrailer c.net s.fwd ∨ item = .marker ∧ (frameItem item s).fwd = s.fwd := by
  by_cases hm : item = .marker ∧ s.framer.acquisition = .hunt
  · refine .inr ⟨hm.1, ?_⟩
    have hframe : frameItem item s = beginJudging .search (cutShort c s) := by
      simp only [frameItem, hj, hc, cycleItem, hacc, hm, and_self, if_true, Bool.not_true, Bool.false_eq_true, if_false]
    rw [hframe, cutShort, if_neg (Nat.not_lt.mpr (Nat.le_of_eq hpos.symm))]
    rfl
  · refine .inl ?_
    rw [frameItem_accepted hj hc hacc hm, acceptedItem_trailer s hpos rfl]
    dsimp only
    have hflag (b : Bool) (t : State) : (setFlagIf b .strayMarker t).fwd = t.fwd := by cases b <;> rfl
    split
    · rw [endCycle_of_cycle (c := { c with pos := c.pos + 1, status := .spoiled })
        (by rw [spoilCycle_framer, failed_cycle])]
      show adjustTrailer c.net (spoilCycle _ _).fwd = _
      rw [spoilCycle_fwd, hflag]
      rfl
    · rw [endCycle_of_cycle (c := { c with pos := c.pos + 1 }) (by rw [setFlagIf_framer]; rfl)]
      show adjustTrailer c.net (setFlagIf _ _ _).fwd = _
      rw [hflag]
      rfl

/-- What falls amid an item does not reach into the delay line. -/
theorem frameAmid_fwd (amid : List (List Amid)) (item : Item) (s : State) :
    ∃ u : State, u.framer = s.framer ∧ u.fwd = s.fwd ∧ (frameAmid amid item s).fwd = (frameItem item u).fwd := by
  unfold frameAmid
  dsimp only
  split
  next => exact ⟨s, rfl, rfl, (changes_settle (by simp) (by simp) amid _ _).fwd_still⟩
  next =>
    exact ⟨takeAmids (amid.headD []) s, takeAmids_framer _ s, takeAmids_fwd _ s, takeAmids_fwd _ _⟩

theorem takeItem_trailer_fwd {c : Cycle} (item : Item) (inputs : Byte) (amid : List (List Amid)) (hrun : s.inReset = false)
    (hj : s.framer.judging = none) (hc : s.framer.cycle = some c) (hacc : c.accepted = true)
    (hpos : c.pos + 1 = trailerPos c) :
    (takeItem item inputs amid s).fwd = adjustTrailer c.net (forwardItem item s.fwd) ∨
      item = .marker ∧ (takeItem item inputs amid s).fwd = forwardItem item s.fwd := by
  rw [takeItem_running item inputs amid s hrun]
  split
  next hcompletes =>
    obtain ⟨d, -, hd, -, hframe⟩ := frameItem_of_completes hcompletes
    obtain rfl : c = d := Option.some.inj (hc.symm.trans hd)
    refine .inl ((changes_completeCycle (by simp) (by simp) (fun _ _ => by simp) amid).fwd_still.trans ?_)
    rw [hframe]
    rfl
  next =>
    obtain ⟨u, hframer, hfwd, htaken⟩ := frameAmid_fwd amid item (afterItem item inputs s)
    rw [htaken]
    refine (frameItem_trailer_fwd (s := u) (c := c) item ?_ ?_ hacc hpos).imp ?_ ?_
    · rw [hframer]; exact hj
    · rw [hframer]; exact hc
    · rw [hfwd]; exact id
    · rw [hfwd]; exact id

/-- Settles O11, by what the framer does at the trailer position. -/
theorem trailerLeavesWithTheNetCheckChange : Obligations.TrailerLeavesWithTheNetCheckChange := by
  intro c item inputs amid s hcalm hrun hj hc hacc hpos hkept
  have hline : (forwardItem item s.fwd).line = s.fwd.line.tail ++ [⟨item, none, none, 0, false⟩] := by
    rw [forwardItem_line, hkept]
    rfl
  refine ⟨_, exec_itemReceived_calm item inputs s hcalm, ?_⟩
  obtain hfwd | ⟨rfl, hfwd⟩ := takeItem_trailer_fwd item inputs amid hrun hj hc hacc hpos
  · rw [hfwd, adjustTrailer_concat c.net hline, hline, List.getLast?_concat, List.dropLast_concat, List.dropLast_concat]
    simp only [BitVec.ofNat_eq_ofNat, BitVec.zero_add]
    exact ⟨congrArg some (leavingItem_adjusted item none c.net true), trivial⟩
  · rw [hfwd, hline, List.getLast?_concat]
    exact ⟨rfl, rfl⟩

/-! ## An asserted reset (R4, R78) -/

theorem withdrawCells_cons (c : Cell) (cs : List Cell) (left : Nat) (unsent : Word) :
    ∃ d left' unsent', withdrawCells (c :: cs) left unsent = d :: withdrawCells cs left' unsent' := by
  rw [withdrawCells]
  split
  · exact ⟨_, _, _, rfl⟩
  · split
    · exact ⟨_, _, _, rfl⟩
    · split <;> exact ⟨_, _, _, rfl⟩

/-- The places of a slot still to come are withdrawn with it. -/
theorem withdrawCells_left (cells : List Cell) (left : Nat) (unsent : Word) {i : Nat} {c : Cell} (hi : i < left)
    (hc : cells[i]? = some c)
    (hnone : ∀ (j : Nat) (d : Cell), j ≤ i → cells[j]? = some d → d.change = none) :
    (withdrawCells cells left unsent)[i]? = some { c with rewritten := none, change := none } := by
  induction cells generalizing i left with
  | nil => simp at hc
  | cons d cs ih =>
    have hd : d.change = none := hnone 0 d (Nat.zero_le i) rfl
    have hstep : withdrawCells (d :: cs) left unsent = { d with rewritten := none } :: withdrawCells cs (left - 1) unsent := by
      rw [withdrawCells, hd]
      exact if_pos (Nat.zero_lt_of_lt hi)
    rw [hstep]
    cases i with
    | zero =>
      obtain rfl : d = c := Option.some.inj hc
      rw [← hd]
      rfl
    | succ i => exact ih (left - 1) (by omega) hc fun j e hj he => hnone (j + 1) e (Nat.succ_le_succ hj) he

theorem withdrawCells_slot (cells : List Cell) (left : Nat) (unsent : Word) {p i : Nat} {head c : Cell}
    (hp : cells[p]? = some head) (hchange : head.change ≠ none)
    (hnone : ∀ (j : Nat) (d : Cell), 1 ≤ j → j < 8 → cells[p + j]? = some d → d.change = none) (hi : i < 8)
    (hc : cells[p + i]? = some c) :
    (withdrawCells cells left unsent)[p + i]? = some { c with rewritten := none, change := none } := by
  induction cells generalizing p left unsent with
  | nil => simp at hp
  | cons d cs ih =>
    cases p with
    | zero =>
      obtain rfl : d = head := Option.some.inj hp
      obtain ⟨w, hw⟩ := Option.ne_none_iff_exists'.mp hchange
      have hstep : withdrawCells (d :: cs) left unsent =
          { d with rewritten := none, change := none } :: withdrawCells cs 7 (unsent + w) := by
        rw [withdrawCells, hw]
      rw [hstep, Nat.zero_add]
      rw [Nat.zero_add] at hc
      cases i with
      | zero =>
        obtain rfl : d = c := Option.some.inj hc
        rfl
      | succ i =>
        refine withdrawCells_left cs 7 _ (by omega) hc fun j e hj he => hnone (j + 1) e (by omega) (by omega) ?_
        rw [Nat.zero_add]
        exact he
    | succ p =>
      obtain ⟨x, left', unsent', hstep⟩ := withdrawCells_cons d cs left unsent
      have hshift (j : Nat) (y : Cell) (l : List Cell) : (y :: l)[p + 1 + j]? = l[p + j]? := by
        rw [Nat.add_right_comm, List.getElem?_cons_succ]
      rw [hshift] at hc
      rw [hstep, hshift]
      exact ih left' unsent' hp (fun j e h1 h8 he => hnone j e h1 h8 (by rw [hshift]; exact he)) hc

/-- Before the first slot that is withdrawn every place stays as decided. -/
theorem withdrawCells_before (cells : List Cell) (p : Nat) (h : ∀ c ∈ cells.take (p + 1), c.change = none) :
    (withdrawCells cells 0 0)[p]? = cells[p]? := by
  induction cells generalizing p with
  | nil => rfl
  | cons c cs ih =>
    have hnone : c.change = none := h c (by simp)
    have hstep : withdrawCells (c :: cs) 0 0 = c :: withdrawCells cs 0 0 := by
      rw [withdrawCells]
      simp only [hnone, Nat.lt_irrefl, if_false, BitVec.ofNat_eq_ofNat, BitVec.sub_zero]
      rw [← hnone, ite_self]
    rw [hstep]
    cases p with
    | zero => rfl
    | succ p => exact ih p fun d hd => h d (by rw [List.take_succ_cons]; exact .tail _ hd)

theorem withdrawnChange_cons (c : Cell) (cs : List Cell) :
    withdrawnChange (c :: cs) = c.change.getD 0 + withdrawnChange cs := by
  unfold withdrawnChange
  cases h : c.change with
  | none => rw [List.filterMap_cons_none h]; exact (BitVec.zero_add _).symm
  | some w => rw [List.filterMap_cons_some h]; rfl

theorem unsentChange_eq (cells : List Cell) : unsentChange cells = withdrawnChange cells := by
  induction cells with
  | nil => rfl
  | cons c cs ih => rw [withdrawnChange_cons, ← ih]; rfl

/-- A trailer that no slot still to come reaches is no longer adjusted for the slots withdrawn before it. -/
theorem withdrawCells_trailer (cells : List Cell) (left : Nat) (unsent : Word) {q : Nat} {c : Cell}
    (hc : cells[q]? = some c) (ht : c.trailer = true) (hnone : c.change = none) (hleft : left ≤ q)
    (htrailers : ∀ (j : Nat) (d : Cell), j < q → cells[j]? = some d → d.trailer = false)
    (hslot : ∀ (j : Nat) (d : Cell), j < q → q ≤ j + 7 → cells[j]? = some d → d.change = none) :
    (withdrawCells cells left unsent)[q]? =
      some { c with adjust := c.adjust - (unsent + withdrawnChange (cells.take q)) } := by
  induction cells generalizing q left unsent with
  | nil => simp at hc
  | cons d cs ih =>
    cases q with
    | zero =>
      obtain rfl : d = c := Option.some.inj hc
      obtain rfl : left = 0 := Nat.le_zero.mp hleft
      have hzero : unsent + withdrawnChange [] = unsent := BitVec.add_zero unsent
      simp only [withdrawCells, hnone, ht, Nat.lt_irrefl, if_false, if_true, List.getElem?_cons_zero, List.take_zero, hzero]
    | succ q =>
      have hd : d.trailer = false := htrailers 0 d (Nat.succ_pos q) rfl
      have hrest (left' : Nat) (unsent' : Word) (hl : left' ≤ q) :
          (withdrawCells cs left' unsent')[q]? =
            some { c with adjust := c.adjust - (unsent' + withdrawnChange (cs.take q)) } :=
        ih left' unsent' hc hl (fun j e hj he => htrailers (j + 1) e (Nat.succ_lt_succ hj) he)
          fun j e hj hq he => hslot (j + 1) e (Nat.succ_lt_succ hj) (by omega) he
      rw [List.take_succ_cons, withdrawnChange_cons]
      cases hchange : d.change with
      | some w =>
        have hfar : 7 ≤ q := by
          by_contra hnear
          exact absurd ((hslot 0 d (Nat.succ_pos q) (by omega) rfl).symm.trans hchange) (by simp)
        have hstep : withdrawCells (d :: cs) left unsent =
            { d with rewritten := none, change := none } :: withdrawCells cs 7 (unsent + w) := by
          rw [withdrawCells, hchange]
        rw [hstep, List.getElem?_cons_succ, hrest 7 _ hfar, BitVec.add_assoc]
        rfl
      | none =>
        obtain ⟨x, hx⟩ : ∃ x, withdrawCells (d :: cs) left unsent = x :: withdrawCells cs (left - 1) unsent := by
          simp only [withdrawCells, hchange, hd]
          split
          · exact ⟨_, rfl⟩
          · rename_i h0
            obtain rfl : left = 0 := Nat.eq_zero_of_not_pos h0
            exact ⟨d, rfl⟩
        rw [hx, List.getElem?_cons_succ, hrest (left - 1) unsent (by omega)]
        simp only [Option.getD_none, BitVec.ofNat_eq_ofNat, BitVec.zero_add]

theorem forwardAtAssertion_cycle (c : Cycle) (f : Forward) :
    (forwardAtAssertion (some c) f).kept =
      f.kept ++ if c.net - withdrawnChange (f.line.drop (f.line.length - (c.pos + 1))) = 0 then []
        else [⟨8 * c.slots + 3 - c.pos, c.net - withdrawnChange (f.line.drop (f.line.length - (c.pos + 1)))⟩] := by
  simp only [forwardAtAssertion, cycleCells, unsentChange_eq, trailerPos]
  split
  · rw [List.append_nil]
  · rfl

/-! ## A kept trailer (R4; log 16) -/

theorem takeItem_fwd_calm (item : Item) (inputs : Byte) (s : State)
    (h : s.inReset = true ∨ ∀ c, s.framer.cycle = some c → c.accepted = true → s.framer.judging ≠ none) :
    (takeItem item inputs [] s).fwd = forwardItem item s.fwd := by
  obtain hheld | h := h
  · rw [takeItem_of_inReset hheld]
    rfl
  · exact takeItem_fwd_eq item inputs [] h

theorem passKept_waits {n : Nat} (w : Word) (h : 1 < n) : passKept [⟨n, w⟩] = ([⟨n - 1, w⟩], 0) := by
  rw [passKept]
  exact if_neg (Nat.not_le.mpr h)

theorem passKept_due (w : Word) : passKept [⟨1, w⟩] = ([], w) := by
  rw [passKept]
  exact congrArg (([] : List KeptTrailer), ·) (BitVec.zero_add w)

/-- Settles O57: place by place of the delay line at the assertion, and item by item after it. -/
theorem assertedResetFinishesWhatHasBegunToLeave : Obligations.AssertedResetFinishesWhatHasBegunToLeave := by
  refine ⟨fun s => ⟨assertReset s, rfl, fun p i head c hp hchange hnone hi hc => ?slot, fun p h => ?before,
    fun q c hq ht hnone htrailers hslots => ?trailer, fun hcycle => ?noCycle, fun c hcycle => ?cycle,
    fun straps hrun => ?hardware⟩, fun n w item inputs s hn hkept hidle => ?kept⟩
  case hardware =>
    refine ⟨_, rfl, ?_⟩
    show (releaseReset straps (if s.inReset then s else assertReset s)).fwd = _
    rw [hrun]
    rfl
  case slot =>
    show (forwardAtAssertion s.framer.cycle s.fwd).line[p + i]? = _
    rw [forwardAtAssertion_line]
    exact withdrawCells_slot s.fwd.line 0 0 hp hchange hnone hi hc
  case before =>
    show (forwardAtAssertion s.framer.cycle s.fwd).line[p]? = _
    rw [forwardAtAssertion_line]
    exact withdrawCells_before s.fwd.line p h
  case trailer =>
    show (forwardAtAssertion s.framer.cycle s.fwd).line[q]? = _
    rw [forwardAtAssertion_line,
      withdrawCells_trailer s.fwd.line 0 0 hq ht hnone (Nat.zero_le q)
        (fun j d hj hd => htrailers d (List.mem_of_getElem? (i := j) ?_))
        (fun j d hj hfar hd => hslots d (List.mem_of_getElem? (i := j - (q - 7)) ?_))]
    · simp only [BitVec.ofNat_eq_ofNat, BitVec.zero_add]
    · rw [List.getElem?_take_of_lt hj, hd]
    · rw [List.getElem?_drop, List.getElem?_take_of_lt (by omega), ← hd]
      congr 1
      omega
  case noCycle =>
    show (forwardAtAssertion s.framer.cycle s.fwd).kept = _
    rw [hcycle]
    rfl
  case cycle =>
    show (forwardAtAssertion s.framer.cycle s.fwd).kept = _
    rw [hcycle]
    exact forwardAtAssertion_cycle c s.fwd
  case kept =>
    refine ⟨_, exec_itemReceived_calm item inputs s (by simp), fun hmany => ?_, fun hone => ?_⟩
    · rw [takeItem_fwd_calm item inputs s hidle, forwardItem_kept, forwardItem_getLast?, hkept, passKept_waits w hmany]
      exact ⟨rfl, congrArg some (leavingItem_arrived item none false)⟩
    · rw [takeItem_fwd_calm item inputs s hidle, forwardItem_kept, forwardItem_getLast?, hkept, hone, passKept_due w]
      exact ⟨rfl, congrArg some (leavingItem_adjusted item none w false)⟩

end Sys2Proof.Machine
end

section
/-! PROOFS. Items of an accepted cycle and the actions on its slots (chapter 4): TAKE (R63 to R65), OFFER (R68, R69), MANAGE
(R70 to R72), damaged and passed slots (R59 to R61). -/

namespace Sys2Proof.Machine

open Sys2Proof.Safety

variable {c : Cycle} {n : Nat} {item : Item} {inputs : Byte} {s : State}

/-! ## TAKE (R63 to R65) -/

theorem exec_slotPasses {v : Word} {sl : Slot} {e : Entry} (h : SlotPasses c n v sl e s) :
    exec (.itemReceived (.word v) inputs []) s = .next (actOnSlot e n sl (atSlotEnd c n (.word v) inputs s)) :=
  execItemReceived_slotPasses h

theorem stagePattern_eq (w : Word) (cs : Vector Channel 8) : stagePattern w cs = Vector.ofFn fun i => { cs[i] with
    staged := if w.getLsbD (8 + i.val) = true then some (w.getLsbD i.val) else cs[i].staged } := by
  refine congrArg Vector.ofFn (funext fun i => ?_)
  dsimp only [patternLevel]
  by_cases h : w.getLsbD (8 + i.val) = true
  · simp only [if_pos h]
  · simp only [if_neg h]

theorem takeAction_vacant {word : Fin 6} {release : Bool} {sl : Slot} (hv : arrivedHeld sl = false) :
    takeAction word release n sl s = setFlag .emptyTake s := by
  rw [takeAction, slotHeld_eq, if_neg (by simp [hv])]

theorem takeAction_keeps {word : Fin 6} {sl : Slot} (hv : arrivedHeld sl = true) :
    takeAction word false n sl s = s.putChannels (stagePattern sl.payload[word] s.channels) := by
  rw [takeAction, slotHeld_eq, if_pos hv]
  exact if_neg Bool.false_ne_true

theorem takeAction_releases {word : Fin 6} {sl : Slot} (hv : arrivedHeld sl = true) :
    takeAction word true n sl s = leaveReleased n sl (s.putChannels (stagePattern sl.payload[word] s.channels)) := by
  rw [takeAction, slotHeld_eq, if_pos hv]
  exact if_pos rfl

theorem leaveReleased_eq {sl : Slot} (hn : n < 64) (hc : s.framer.cycle = some c) :
    leaveReleased n sl s = leaving c sl (releasedHeader n) emptyPayload s := by
  rw [leaveReleased, slotHeader_released n hn, leaveAs_eq c sl _ _ s hc]
  rfl

/-- Settles O29, by the slot's occupancy and the entry's release. -/
theorem takeStagesThePatternAndReleases : Obligations.TakeStagesThePatternAndReleases := by
  intro c n v sl word release inputs s h
  rw [exec_slotPasses h]
  refine ⟨fun hheld hr => ?keeps, fun hheld hr => ?releases, fun hvacant => ?vacant⟩
  case keeps =>
    subst hr
    rw [actOnSlot, takeAction_keeps hheld, stagePattern_eq]
    rfl
  case releases =>
    subst hr
    rw [actOnSlot, takeAction_releases hheld, stagePattern_eq,
      leaveReleased_eq (c := cycleAt c n v) (undamaged_lt h.undamaged) rfl]
    rfl
  case vacant =>
    rw [actOnSlot, takeAction_vacant hvacant]
    rfl

/-! ## OFFER (R68, R69; log 21) -/

theorem isCheckPos_slotEnd (d : Cycle) (hn : n < d.slots) : isCheckPos d (8 * n + 10) = true :=
  decide_eq_true ⟨by omega, by unfold trailerPos; omega, by omega⟩

/-- The place a slot begins at when its last item arrives. -/
theorem lastSlotRewritten_forwardItem {f : Forward} (hlen : f.line.length = 12)
    (hplain : ∀ d ∈ f.line.drop 5, d.change = none) : lastSlotRewritten (forwardItem item f) = false := by
  have hline : (forwardItem item f).line.drop ((forwardItem item f).line.length - 8) =
      f.line.drop 5 ++ [⟨item, none, none, (passKept f.kept).2, false⟩] := by
    have htail : f.line.tail.length = 11 := by rw [List.length_tail, hlen]
    rw [forwardItem_line, List.length_append, htail, List.drop_append_of_le_length (by simp [htail]),
      List.drop_tail]
    rfl
  unfold lastSlotRewritten
  rw [hline]
  split
  next => rfl
  next first rest hfirst =>
    have hne : f.line.drop 5 ≠ [] := List.ne_nil_of_length_pos (by rw [List.length_drop, hlen]; decide)
    obtain ⟨d, ds, hd⟩ := List.exists_cons_of_ne_nil hne
    obtain ⟨rfl, -⟩ : d = first ∧ _ := List.cons_eq_cons.mp (by rw [← List.cons_append, ← hd]; exact hfirst)
    rw [hplain d (by rw [hd]; exact .head _)]
    rfl

/-- The slot that has just passed is the one the record rows are offered (R68, R132). -/
theorem offeredSlot_atSlotEnd {v : Word} {sl : Slot} {cls : OfferClass} (h : SlotPasses c n v sl (.offer cls) s)
    (hf : follows s = true) (hlen : s.fwd.line.length = 12) (hplain : ∀ d ∈ s.fwd.line.drop 5, d.change = none) :
    offeredSlot (atSlotEnd c n (.word v) inputs s) = some (n, sl, cls) := by
  have hring : followsRing (atSlotEnd c n (.word v) inputs s) = true :=
    (followsRing_iff _).mpr ⟨h.ends.running, (follows_iff s).mp hf⟩
  have hcheck := isCheckPos_slotEnd (cycleAt c n v) (show n < (cycleAt c n v).slots from h.ends.place.2)
  have hplace : (8 * n + 10 - 10) / 8 = n := by omega
  have hfree : lastSlotRewritten (atSlotEnd c n (.word v) inputs s).fwd = false :=
    lastSlotRewritten_forwardItem hlen hplain
  have hcycle : (atSlotEnd c n (.word v) inputs s).framer.cycle = some (cycleAt c n v) := rfl
  have hpos : (cycleAt c n v).pos = 8 * n + 10 := rfl
  have hacc : (cycleAt c n v).accepted = true := h.ends.accepted
  have hrunning : (cycleAt c n v).status = .running := h.unspoiled
  have hkind : (cycleAt c n v).kind = c.kind := rfl
  unfold offeredSlot
  simp only [hcycle, hring, hacc, hrunning, hpos, hcheck, hfree, hplace, passingSlot_atSlotEnd h.words h.undamaged, hkind,
    activeEntry_steering (t := atSlotEnd c n (.word v) inputs s) h.entry rfl]
  rfl

/-- Settles O31: the row finds the slot that has just passed. -/
theorem offerSlotServesTheReturnPath : Obligations.OfferSlotServesTheReturnPath := by
  intro c n v sl cls inputs s h hf hlen hplain
  have hoffered := offeredSlot_atSlotEnd (inputs := inputs) h hf hlen hplain
  rw [exec_slotPasses h]
  refine ⟨fun _ hr => (exec_recordSent hoffered hr).symm, fun _ hr => ?resent, fun hheld => ?held⟩
  case resent =>
    obtain ⟨p, hp⟩ := Option.ne_none_iff_exists'.mp hr
    exact (exec_recordResent hoffered hp).symm
  case held =>
    rw [actOnSlot, offerAction, slotHeld_eq, if_pos hheld]

/-! ## MANAGE (R70 to R72) -/

theorem recordDestination_toNat (p : Vector Word 6) : (recordDestination p).toNat = p[0].toNat % 64 := by
  simp [recordDestination, BitVec.extractLsb']

theorem slotOwner_toNat (w : Word) : (slotOwner w).toNat = w.toNat / 256 % 64 := by
  simp [slotOwner, BitVec.extractLsb', Nat.shiftRight_eq_div_pow]

theorem slotOwner_eq_zero (w : Word) : slotOwner w = 0 ↔ w.toNat / 256 % 64 = 0 := by
  rw [← slotOwner_toNat, ← BitVec.toNat_inj]
  rfl

theorem hiByte_eq (w : Word) : hiByte w = BitVec.ofNat 8 (w.toNat / 256) := by
  apply BitVec.eq_of_toNat_eq
  simp [hiByte, BitVec.extractLsb', Nat.shiftRight_eq_div_pow]

theorem loByte_eq (w : Word) : loByte w = BitVec.ofNat 8 w.toNat := by
  apply BitVec.eq_of_toNat_eq
  simp [loByte, BitVec.extractLsb']

section Destination
variable {address d : BitVec 6} {groups : Word}

theorem destinationType_single (h1 : 1 ≤ d.toNat) (h2 : d.toNat ≤ 32) (ha : d.toNat = address.toNat) :
    destinationType address groups d = some .single := by
  rw [destinationType, if_pos ⟨h1, h2⟩, if_pos (BitVec.eq_of_toNat_eq ha)]

theorem destinationType_otherStation (h1 : 1 ≤ d.toNat) (h2 : d.toNat ≤ 32) (ha : d.toNat ≠ address.toNat) :
    destinationType address groups d = none := by
  rw [destinationType, if_pos ⟨h1, h2⟩, if_neg fun h => ha (congrArg BitVec.toNat h)]

theorem destinationType_group (h1 : 33 ≤ d.toNat) (h2 : d.toNat ≤ 48) :
    destinationType address groups d = if groups.getLsbD (d.toNat - 33) = true then some .group else none := by
  rw [destinationType, if_neg (by omega), if_pos ⟨h1, h2⟩]

theorem destinationType_all (h : d.toNat = 63) : destinationType address groups d = some .all := by
  rw [destinationType, if_neg (by omega), if_neg (by omega), if_pos h]

theorem destinationType_invalid (h : d.toNat = 0 ∨ 49 ≤ d.toNat ∧ d.toNat ≤ 62) :
    destinationType address groups d = none := by
  rw [destinationType, if_neg (by omega), if_neg (by omega), if_neg (by omega)]

end Destination

section Manage
variable {sl : Slot} {release : Bool}

/-- What is collected from a slot, with the record's fields as R13 places them. -/
theorem heldEntryOf_eq (n : Nat) (d : DestType) (p : Vector Word 6) : heldEntryOf n d p =
    ⟨n, BitVec.ofNat 8 (p[0].toNat / 256), ⟨d, BitVec.ofNat 8 p[1].toNat, p[2], p[3], p[4], p[5]⟩⟩ := by
  rw [heldEntryOf, hiByte_eq, loByte_eq]

theorem manageAction_collects {d : DestType} (hv : arrivedHeld sl = true) (ho : sl.header.toNat / 256 % 64 = 0)
    (hd : destinationType s.agent.address s.params.groups (recordDestination sl.payload) = some d) :
    manageAction release n sl s =
      let t : State := { s with engine := { s.engine with held := s.engine.held ++ [heldEntryOf n d sl.payload] } }
      if release = true ∧ d = .single then leaveReleased n sl t else t := by
  rw [manageAction, slotHeld_eq, if_pos ⟨hv, (slotOwner_eq_zero _).mpr ho⟩, hd]
  rfl

theorem manageAction_leaves (h : arrivedHeld sl = false ∨ sl.header.toNat / 256 % 64 ≠ 0 ∨
    destinationType s.agent.address s.params.groups (recordDestination sl.payload) = none) :
    manageAction release n sl s = s := by
  rw [manageAction, slotHeld_eq]
  split
  next hcollects =>
    obtain ⟨hv, ho⟩ := hcollects
    obtain h | h | h := h
    · exact absurd hv (by rw [h]; exact Bool.false_ne_true)
    · exact absurd ((slotOwner_eq_zero _).mp ho) h
    · rw [h]
  next => rfl

/-- Settles O32, by the destination. -/
theorem manageCollectsTheStationsCommands : Obligations.ManageCollectsTheStationsCommands := by
  intro c n v sl release inputs s h
  rw [exec_slotPasses h]
  simp only [← recordDestination_toNat, ← heldEntryOf_eq]
  refine ⟨fun hv ho h1 h2 ha => ?single, fun hv ho h1 h2 hg => ?group, fun hv ho hd => ?all, fun hnot => ?leaves⟩
  case single =>
    rw [actOnSlot, manageAction_collects (s := atSlotEnd c n (.word v) inputs s) hv ho (destinationType_single h1 h2 ha)]
    dsimp only
    cases release with
    | true =>
      rw [if_pos ⟨rfl, rfl⟩, if_pos rfl, leaveReleased_eq (c := cycleAt c n v) (undamaged_lt h.undamaged) rfl]
      rfl
    | false =>
      rw [if_neg (by simp), if_neg Bool.false_ne_true]
      rfl
  case group =>
    have hgroup := destinationType_group (address := s.agent.address) (groups := s.params.groups) h1 h2
    rw [if_pos hg] at hgroup
    rw [actOnSlot, manageAction_collects (s := atSlotEnd c n (.word v) inputs s) hv ho hgroup]
    dsimp only
    rw [if_neg (by simp)]
    rfl
  case all =>
    rw [actOnSlot, manageAction_collects (s := atSlotEnd c n (.word v) inputs s) hv ho (destinationType_all hd)]
    dsimp only
    rw [if_neg (by simp)]
    rfl
  case leaves =>
    rw [actOnSlot, manageAction_leaves]
    refine hnot.imp_right (Or.imp_right fun hd => ?_)
    obtain hd | hd | ⟨h1, h2, ha⟩ | ⟨h1, h2, hg⟩ := hd
    · exact destinationType_invalid (.inl hd)
    · exact destinationType_invalid (.inr hd)
    · exact destinationType_otherStation h1 h2 ha
    · exact (destinationType_group h1 h2).trans (if_neg fun ht => Bool.false_ne_true (hg.symm.trans ht))

end Manage

/-! ## An item of an accepted cycle (R29 to R32) -/

theorem isCheckPos_iff (hpos : 2 ≤ c.pos) (hlt : c.pos + 1 < 8 * c.slots + 3) :
    isCheckPos c (c.pos + 1) = true ↔ (c.pos + 1) % 8 = 2 := by
  rw [isCheckPos, decide_eq_true_iff, trailerPos]
  omega

theorem isCheckPos_false (hpos : 2 ≤ c.pos) (hlt : c.pos + 1 < 8 * c.slots + 3) (hmod : (c.pos + 1) % 8 ≠ 2) :
    isCheckPos c (c.pos + 1) = false :=
  Bool.eq_false_iff.mpr (mt (isCheckPos_iff hpos hlt).mp hmod)

/-- Whatever the item, the position moves on by one and the slots, the kind and what was decided stay. -/
theorem advanceCycle_pos (item : Item) (c : Cycle) : (advanceCycle item c).pos = c.pos + 1 := by
  unfold advanceCycle
  dsimp only
  split
  · split <;> rfl
  · rfl

theorem isCheckPos_congr {d : Cycle} (h : d.slots = c.slots) (pos : Nat) : isCheckPos d pos = isCheckPos c pos := by
  rw [isCheckPos, isCheckPos, trailerPos, trailerPos, h]

theorem acceptedItem_between (hlt : c.pos + 1 < 8 * c.slots + 3) (hcheck : isCheckPos c (c.pos + 1) = false) (s : State) :
    acceptedItem c item s =
      let d : Cycle := { c with pos := c.pos + 1 }
      let t := setFlagIf (item == .marker) .strayMarker (s.putFramer { s.framer with cycle := some d })
      if spoils item d then spoilCycle d t else t := by
  have hin : c.pos + 1 < trailerPos c := hlt
  have hplain : isCheckPos { c with pos := c.pos + 1 } (c.pos + 1) = false := hcheck
  rw [acceptedItem, advanceCycle_plain hcheck]
  simp only [trailerPos] at hin ⊢
  simp only [hin, hplain, if_true, Bool.false_eq_true, if_false]

theorem acceptedItem_check (hlt : c.pos + 1 < 8 * c.slots + 3) (hcheck : isCheckPos c (c.pos + 1) = true) (s : State) :
    acceptedItem c item s =
      let d := advanceCycle item c
      let t := setFlagIf (item == .marker) .strayMarker (s.putFramer { s.framer with cycle := some d })
      decideSlot { d with status := if spoils item d then .spoiled else d.status } ((c.pos + 1 - 10) / 8)
        (if spoils item d then spoilCycle d t else t) := by
  obtain ⟨-, -, -, hslots, -, -⟩ := advanceCycle_same item c
  have hpos := advanceCycle_pos item c
  have hin : c.pos + 1 < trailerPos (advanceCycle item c) := by
    rw [trailerPos, hslots]
    exact hlt
  have hplace : isCheckPos (advanceCycle item c) (c.pos + 1) = true := (isCheckPos_congr hslots _).trans hcheck
  unfold acceptedItem
  simp only [hpos, hin, hplace, if_true]

/-- An item of an accepted cycle that completes nothing, and is no MARKER in HUNT. -/
theorem exec_acceptedItem (hrun : s.inReset = false) (hj : s.framer.judging = none) (hc : s.framer.cycle = some c)
    (hacc : c.accepted = true) (hm : item = .marker → follows s = true)
    (hno : c.status ≠ .running ∨ c.pos + 1 ≠ 8 * c.slots + 3 ∨ item ≠ .word c.sum ∨ c.checkFault = true) :
    exec (.itemReceived item inputs []) s = .next (settle [] (afterItem item inputs s).framer
      (acceptedItem c item (afterItem item inputs s))) := by
  have hnot : completes item (afterItem item inputs s) = false := by
    by_contra hcompletes
    obtain ⟨d, -, hd, -, hstatus, hpos, hword, hcheck⟩ := completes_iff.mp (by simpa using hcompletes)
    obtain rfl : c = d := Option.some.inj (hc.symm.trans hd)
    obtain h | h | h | h := hno
    · exact h hstatus
    · exact h hpos
    · exact h hword
    · exact absurd h (by rw [hcheck]; exact Bool.false_ne_true)
  refine (execItemReceived_plain hrun hnot).trans ?_
  rw [frameItem_accepted (c := c) (s := afterItem item inputs s) hj hc hacc]
  rintro ⟨hmarker, hhunt⟩
  have hf := (follows_iff s).mp (hm hmarker)
  have hhunt : s.framer.acquisition = .hunt := hhunt
  simp [following, hhunt] at hf

theorem spoils_of_not_running {d : Cycle} (h : d.status ≠ .running) : spoils item d = false := by
  by_contra hs
  exact h (spoils_running (by simpa using hs))

/-- Before the trailer position only an IDLE and a MARKER spoil a running cycle (R32). -/
theorem spoils_before {d : Cycle} (hlt : d.pos < trailerPos d) :
    spoils item d = (d.status == .running && (item == .marker || item == .idle)) := by
  rw [spoils, if_pos hlt]

/-- What spoils nothing before the trailer position: a WORD, a FAULT, and in a spoiled cycle an IDLE or a stray MARKER. -/
def Harmless (c : Cycle) (item : Item) (s : State) : Prop :=
  (∃ v, item = .word v) ∨ item = .fault ∨ c.status = .spoiled ∧ (item = .idle ∨ item = .marker ∧ follows s = true)

theorem Harmless.marker (h : Harmless c item s) (hm : item = .marker) : follows s = true := by
  subst hm
  obtain ⟨v, hv⟩ | hf | ⟨-, hi | ⟨-, hf⟩⟩ := h
  · cases hv
  · cases hf
  · cases hi
  · exact hf

theorem Harmless.not_spoils (h : Harmless c item s) {d : Cycle} (hstatus : d.status = c.status)
    (hlt : d.pos < trailerPos d) : spoils item d = false := by
  obtain ⟨v, rfl⟩ | rfl | ⟨hspoiled, -⟩ := h
  · rw [spoils_before hlt]; exact Bool.and_false _
  · rw [spoils_before hlt]; exact Bool.and_false _
  · exact spoils_of_not_running (by rw [hstatus, hspoiled]; decide)

/-! ## Damaged slots (R11, R61) -/

theorem lastSlotItems_getLast? (item : Item) (f : Forward) : (lastSlotItems (forwardItem item f)).getLast? = some item := by
  rw [lastSlotItems, List.getLast?_map, List.getLast?_drop, if_neg (by rw [forwardItem_line]; simp),
    forwardItem_getLast?]
  rfl

theorem slotOfItems_some {items : List Item} {sl : Slot} (h : slotOfItems items = some sl) :
    items.getLast? = some (.word sl.check) := by
  unfold slotOfItems at h
  split at h
  · cases h
    rfl
  · cases h

theorem slotOfItems_forwardItem {f : Forward} (h : ∀ v, item ≠ .word v) :
    slotOfItems (lastSlotItems (forwardItem item f)) = none := by
  by_contra hsome
  obtain ⟨sl, hsl⟩ := Option.ne_none_iff_exists'.mp hsome
  exact h _ (Option.some.inj ((lastSlotItems_getLast? item f).symm.trans (slotOfItems_some hsl)))

theorem decideSlot_damaged (d : Cycle) (h : ∀ sl, slotOfItems (lastSlotItems s.fwd) = some sl → ¬ Undamaged n sl) :
    decideSlot d n s = damagedSlot s := by
  have hnone : passingSlot n s = none := by
    unfold passingSlot
    split
    next => rfl
    next sl hsl => rw [if_pos (by simpa using mt (slotDamaged_iff n sl).mp (h sl hsl))]
  rw [decideSlot, hnone]
  exact countDamaged_eq _

/-- Settles O33: between slot checks nothing is decided, at one a damaged slot is counted, and a PASS entry does nothing. -/
theorem damagedPassedAndSpoiledSlotsAreLeftAlone : Obligations.DamagedPassedAndSpoiledSlotsAreLeftAlone := by
  refine ⟨fun c item inputs s hrun hj hc hacc hpos hlt hmod hitem => ?between, fun c n item inputs s h hitem hdamaged => ?damaged,
    fun c n v sl inputs s => ⟨fun h => exec_slotPasses h, fun h hspoiled hwords hundamaged => ?spoiled⟩⟩
  case between =>
    have hitem : Harmless c item s := hitem
    rw [exec_acceptedItem hrun hj hc hacc hitem.marker (.inr (.inl (Nat.ne_of_lt hlt))),
      acceptedItem_between hlt (isCheckPos_false hpos hlt hmod)]
    dsimp only
    rw [hitem.not_spoils (d := { c with pos := c.pos + 1 }) rfl hlt, if_neg Bool.false_ne_true, settle_nothing]
    · cases item <;> rfl
    · cases item <;> rfl
    · cases item <;> exact Nat.le_refl _
  case damaged =>
    have hitem : Harmless c item s := hitem
    have hlt : c.pos + 1 < 8 * c.slots + 3 := by
      obtain ⟨hp, hn⟩ := h.place
      omega
    have hcheck : isCheckPos c (c.pos + 1) = true := by
      rw [h.place.1]
      exact isCheckPos_slotEnd c h.place.2
    have hplace : (c.pos + 1 - 10) / 8 = n := by
      rw [h.place.1]
      omega
    obtain ⟨-, hstatus, -, hslots, -, -⟩ := advanceCycle_same item c
    have hquiet : spoils item (advanceCycle item c) = false := by
      refine hitem.not_spoils hstatus ?_
      rw [advanceCycle_pos, trailerPos, hslots]
      exact hlt
    rw [exec_acceptedItem h.running h.noHeader h.cycle h.accepted hitem.marker (.inr (.inl (Nat.ne_of_lt hlt))),
      acceptedItem_check hlt hcheck]
    dsimp only
    rw [hquiet, if_neg Bool.false_ne_true, if_neg Bool.false_ne_true, hplace, decideSlot_damaged, settle_nothing,
      advanceCycle_atCheck h.place.1 h.place.2]
    · cases item <;> rfl
    · cases item <;> rfl
    · cases item <;> exact Nat.le_refl _
    · cases item <;> exact hdamaged
  case spoiled =>
    refine (execItemReceived_slotEnd h (by simp) (.inl (by simp))).trans (congrArg _ ?_)
    have hstatus : (advanceCycle (.word v) c).status ≠ .running := by
      rw [(advanceCycle_same (.word v) c).2.1, hspoiled]
      decide
    rw [decideSlot, passingSlot_atSlotEnd hwords hundamaged]
    exact if_neg hstatus

end Sys2Proof.Machine
end

section
/-! PROOFS. The framer (chapter 2): HUNT and CONFIRM (R20 to R25), windows and failures (R27 to R29, R33 to R36), and what
spoils an accepted cycle (R29, R32). -/

namespace Sys2Proof.Machine

open Sys2Proof.Safety

variable {item : Item} {inputs : Byte} {s : State}

/-! ## One item, by what the framer is at -/

/-- Where the framer neither accepts a cycle nor fails, its own step is all. -/
theorem settles_as {before : Framer} {t u : State} (h : t = u) (ha : u.framer.acceptedCount = before.acceptedCount)
    (hf : u.framer.failures ≤ before.failures) :
    (Host.Outcome.next (settle [] before t) : Host.Outcome State Fault Refusal) = .next u := by
  rw [h, settle_nothing ha hf]

theorem exec_headerItem {j : Judging} (hrun : s.inReset = false) (hj : s.framer.judging = some j) :
    exec (.itemReceived item inputs []) s = .next (settle [] (afterItem item inputs s).framer
      (headerItem j item (afterItem item inputs s))) := by
  have hja : (afterItem item inputs s).framer.judging = some j := hj
  have hframe : frameItem item (afterItem item inputs s) = headerItem j item (afterItem item inputs s) := by
    unfold frameItem
    rw [hja]
  exact (execItemReceived_plain hrun (completes_judging hja)).trans (by rw [hframe])

theorem exec_gapItem (hrun : s.inReset = false) (hj : s.framer.judging = none) (hc : s.framer.cycle = none) :
    exec (.itemReceived item inputs []) s = .next (settle [] (afterItem item inputs s).framer
      (gapItem item (afterItem item inputs s))) := by
  have hja : (afterItem item inputs s).framer.judging = none := hj
  have hca : (afterItem item inputs s).framer.cycle = none := hc
  have hframe : frameItem item (afterItem item inputs s) = gapItem item (afterItem item inputs s) := by
    unfold frameItem
    rw [hja, hca]
  exact (execItemReceived_plain hrun (completes_gap hca)).trans (by rw [hframe])

theorem exec_candidateItem {c : Cycle} (hrun : s.inReset = false) (hj : s.framer.judging = none)
    (hc : s.framer.cycle = some c) (hacc : c.accepted = false) :
    exec (.itemReceived item inputs []) s = .next (settle [] (afterItem item inputs s).framer
      (candidateItem c item (afterItem item inputs s))) := by
  have hja : (afterItem item inputs s).framer.judging = none := hj
  have hca : (afterItem item inputs s).framer.cycle = some c := hc
  have hframe : frameItem item (afterItem item inputs s) = candidateItem c item (afterItem item inputs s) := by
    unfold frameItem cycleItem
    rw [hja, hca]
    exact if_pos (by rw [hacc]; rfl)
  have hnot : completes item (afterItem item inputs s) = false := by
    simp only [completes, hja, hca, hacc, Bool.false_and]
  exact (execItemReceived_plain hrun hnot).trans (by rw [hframe])

theorem exec_cutShort {c : Cycle} (hrun : s.inReset = false) (hhunt : s.framer.acquisition = .hunt)
    (hj : s.framer.judging = none) (hc : s.framer.cycle = some c) (hacc : c.accepted = true) :
    exec (.itemReceived .marker inputs []) s = .next (settle [] (afterItem .marker inputs s).framer
      (beginJudging .search (cutShort c (afterItem .marker inputs s)))) := by
  have hja : (afterItem .marker inputs s).framer.judging = none := hj
  have hca : (afterItem .marker inputs s).framer.cycle = some c := hc
  have hhunta : (afterItem .marker inputs s).framer.acquisition = .hunt := hhunt
  have hframe : frameItem .marker (afterItem .marker inputs s) =
      beginJudging .search (cutShort c (afterItem .marker inputs s)) := by
    unfold frameItem cycleItem
    rw [hja, hca]
    dsimp only
    rw [if_neg (by rw [hacc]; exact Bool.false_ne_true), if_pos ⟨rfl, hhunta⟩]
  have hnot : completes .marker (afterItem .marker inputs s) = false := by
    by_contra h
    obtain ⟨d, -, -, -, -, -, hword, -⟩ := completes_iff.mp (by simpa using h)
    cases hword
  exact (execItemReceived_plain hrun hnot).trans (by rw [hframe])

/-! ## The header of a judged MARKER (R20, R22, R23) -/

theorem candidateCycle_eq (a b : Word) : candidateCycle a b = opened false a b := by
  rw [candidateCycle, headerKind_eq, headerSlots_eq]
  rfl

theorem enterConfirm_eq (time : Nat) (a b : Word) (s : State) : enterConfirm time a b s = { s with framer := { s.framer with
    acquisition := .confirm, reference := none, slotCount := some (slotsOf b),
    candidate := some ⟨a, time, slotsOf b, 0, if s.params.quickConfirm = 1 then 1 else 3⟩, judging := none,
    cycle := some (opened false a b) } } := by
  rw [enterConfirm, candidateCycle_eq, headerSlots_eq]
  rfl

section Header
variable {j : Judging} {a b : Word}

theorem headerItem_headerA (ha : j.headerA = none) (s : State) : headerItem j (.word a) s =
    { s with framer := { s.framer with judging := some { j with headerA := some a } } } := by
  unfold headerItem
  rw [ha]
  rfl

theorem headerItem_valid (ha : j.headerA = some a) (hok : HeaderOk a b) (s : State) :
    headerItem j (.word b) s = headerIsValid j a b s := by
  unfold headerItem
  rw [ha]
  exact if_pos ((headerValid_iff a b).mpr hok)

theorem headerItem_notValid (ha : j.headerA = some a) (hok : ¬ HeaderOk a b) (s : State) :
    headerItem j (.word b) s = headerNotValid j s := by
  unfold headerItem
  rw [ha]
  exact if_neg (by rw [headerValid_false hok]; exact Bool.false_ne_true)

theorem headerItem_noWord (hitem : item = .idle ∨ item = .fault) (s : State) :
    headerItem j item s = headerNotValid j s := by
  obtain rfl | rfl := hitem <;> rfl

end Header

/-- Settles O12, by the framer's step at the item. -/
theorem huntJudgesMarkersAndEntersConfirm : Obligations.HuntJudgesMarkersAndEntersConfirm := by
  refine ⟨fun item inputs s hrun hhunt hj hc => ⟨fun hm => ?noMarker, ?marker⟩,
    fun time a inputs s hrun => ⟨fun hj => ?headerA, fun hj b => ⟨fun hok => ?valid, fun hok => ?notValid⟩,
      fun headerA hj => ⟨fun item hitem => ?noWord, ?judgedItself⟩⟩,
    fun c inputs s hrun hhunt hj hc hacc hspoiled hpos => ⟨fun hlt => ?cutShort, fun heq => ?atTrailer⟩⟩
  case noMarker =>
    have hgap : gapItem item (afterItem item inputs s) = afterItem item inputs s := by
      have hhunta : (afterItem item inputs s).framer.acquisition = .hunt := hhunt
      rw [gapItem, hhunta]
      exact if_neg hm
    rw [exec_gapItem hrun hj hc, hgap]
    exact settles_as rfl rfl (Nat.le_refl _)
  case marker =>
    have hgap : gapItem .marker (afterItem .marker inputs s) = beginJudging .search (afterItem .marker inputs s) := by
      have hhunta : (afterItem .marker inputs s).framer.acquisition = .hunt := hhunt
      rw [gapItem, hhunta]
      rfl
    rw [exec_gapItem hrun hj hc, hgap]
    exact settles_as rfl rfl (Nat.le_refl _)
  case headerA =>
    rw [exec_headerItem hrun hj, headerItem_headerA rfl]
    exact settles_as rfl rfl (Nat.le_refl _)
  case valid =>
    rw [exec_headerItem hrun hj, headerItem_valid rfl hok, headerIsValid, enterConfirm_eq]
    exact settles_as rfl rfl (Nat.le_refl _)
  case notValid =>
    rw [exec_headerItem hrun hj, headerItem_notValid rfl hok]
    exact settles_as rfl rfl (Nat.le_refl _)
  case noWord =>
    rw [exec_headerItem hrun hj, headerItem_noWord hitem]
    exact settles_as rfl rfl (Nat.le_refl _)
  case judgedItself =>
    rw [exec_headerItem hrun hj]
    exact settles_as rfl rfl (Nat.le_refl _)
  case cutShort =>
    have hcut : cutShort c (afterItem .marker inputs s) = damagedSlot (afterItem .marker inputs s) :=
      (if_pos hlt).trans (countDamaged_eq _)
    rw [exec_cutShort hrun hhunt hj hc hacc, hcut]
    exact settles_as rfl rfl (Nat.le_refl _)
  case atTrailer =>
    have hcut : cutShort c (afterItem .marker inputs s) = afterItem .marker inputs s :=
      if_neg (Nat.not_lt.mpr (Nat.le_of_eq heq.symm))
    rw [exec_cutShort hrun hhunt hj hc hacc, hcut]
    exact settles_as rfl rfl (Nat.le_refl _)

/-! ## A candidate's items (R24; log 15, 24) -/

section Candidate
variable {c : Cycle}

theorem advanceCycle_checkWord {v : Word} (h : isCheckPos c (c.pos + 1) = true) :
    advanceCycle (.word v) c = { c with pos := c.pos + 1, sum := c.sum + v } := by
  rw [advanceCycle]
  exact if_pos h

theorem advanceCycle_checkNoWord (hitem : ∀ v, item ≠ .word v) (h : isCheckPos c (c.pos + 1) = true) :
    advanceCycle item c = { c with pos := c.pos + 1, checkFault := true } := by
  unfold advanceCycle
  refine (if_pos h).trans ?_
  cases item with
  | word v => exact absurd rfl (hitem v)
  | marker | idle | fault => rfl

theorem advanceCycle_before (item : Item) (hlt : c.pos + 1 < 8 * c.slots + 3) :
    (advanceCycle item c).pos < trailerPos c := by
  rw [advanceCycle_pos]
  exact hlt

theorem candidateItem_marker (s : State) : candidateItem c .marker s = beginJudging .search s := by
  rw [candidateItem]
  exact if_pos rfl

theorem candidateItem_idle (hlt : c.pos + 1 < 8 * c.slots + 3) (s : State) : candidateItem c .idle s = enterHunt s := by
  unfold candidateItem
  dsimp only
  rw [if_neg (by simp), if_pos (advanceCycle_before .idle hlt), if_pos rfl]

theorem candidateItem_between (hm : item ≠ .marker) (hi : item ≠ .idle) (hlt : c.pos + 1 < 8 * c.slots + 3) (s : State) :
    candidateItem c item s = { s with framer := { s.framer with cycle := some (advanceCycle item c) } } := by
  unfold candidateItem
  dsimp only
  rw [if_neg hm, if_pos (advanceCycle_before item hlt), if_neg hi]
  rfl

theorem candidateItem_trailer (hm : item ≠ .marker) (hpos : c.pos + 1 = 8 * c.slots + 3) (s : State) :
    candidateItem c item s = if item = .word c.sum ∧ c.checkFault = false then
      { s with framer := { s.framer with
        candidate := s.framer.candidate.map fun k => { k with good := k.good + 1 }, cycle := none } }
    else enterHunt s := by
  have hnot : ¬ c.pos + 1 < trailerPos c := Nat.not_lt.mpr (Nat.le_of_eq hpos.symm)
  rw [candidateItem, advanceCycle_plain (isCheckPos_trailer hpos)]
  dsimp only
  rw [if_neg hm, if_neg hnot]
  simp only [trailerChecks, Bool.and_eq_true, beq_iff_eq, Bool.not_eq_true']
  rfl

end Candidate

/-- Settles O13, by the position and the item. -/
theorem candidateCompletesOrFails : Obligations.CandidateCompletesOrFails := by
  intro c k inputs s hrun hj hc hacc hk
  refine ⟨fun item hitem hpos hlt hmod => ?between, fun hpos hlt hmod => ⟨fun v => ?checkWord, ?checkFault⟩,
    fun hpos hfault => ?completes, fun item hm hfails => ?fails, ?marker⟩
  case between =>
    have hm : item ≠ .marker := by rintro rfl; simp at hitem
    have hi : item ≠ .idle := by rintro rfl; simp at hitem
    rw [exec_candidateItem hrun hj hc hacc, candidateItem_between hm hi hlt,
      advanceCycle_plain (isCheckPos_false hpos hlt hmod)]
    exact settles_as rfl rfl (Nat.le_refl _)
  case checkWord =>
    rw [exec_candidateItem hrun hj hc hacc, candidateItem_between (by simp) (by simp) hlt,
      advanceCycle_checkWord ((isCheckPos_iff hpos hlt).mpr hmod)]
    exact settles_as rfl rfl (Nat.le_refl _)
  case checkFault =>
    rw [exec_candidateItem hrun hj hc hacc, candidateItem_between (by simp) (by simp) hlt,
      advanceCycle_checkNoWord (by simp) ((isCheckPos_iff hpos hlt).mpr hmod)]
    exact settles_as rfl rfl (Nat.le_refl _)
  case completes =>
    have hka : (afterItem (.word c.sum) inputs s).framer.candidate = some k := hk
    rw [exec_candidateItem hrun hj hc hacc, candidateItem_trailer (by simp) hpos, if_pos ⟨rfl, hfault⟩, hka]
    exact settles_as rfl rfl (Nat.le_refl _)
  case fails =>
    have hfail : candidateItem c item (afterItem item inputs s) = enterHunt (afterItem item inputs s) := by
      obtain ⟨hpos, hbad⟩ | ⟨hlt, rfl⟩ := hfails
      · rw [candidateItem_trailer hm hpos, if_neg]
        rintro ⟨hword, hcheck⟩
        obtain h | h := hbad
        · exact h hword
        · exact Bool.false_ne_true (hcheck.symm.trans h)
      · exact candidateItem_idle hlt _
    rw [exec_candidateItem hrun hj hc hacc, hfail]
    exact settles_as rfl rfl (Nat.le_refl _)
  case marker =>
    rw [exec_candidateItem hrun hj hc hacc, candidateItem_marker]
    exact settles_as rfl rfl (Nat.le_refl _)

/-! ## The MARKER after a completed candidate (R25) -/

theorem spacingAcceptable_iff (reference : Option Nat) (spacing : Nat) : spacingAcceptable reference spacing = true ↔
    spacing ≤ 250000 ∧ ∀ r, reference = some r → r - 4 ≤ spacing ∧ spacing ≤ r + 4 := by
  cases reference with
  | none => exact decide_eq_true_iff.trans ⟨fun h => ⟨h, by simp⟩, fun h => h.1⟩
  | some r =>
    have hdecide : spacingAcceptable (some r) spacing = true ↔ r ≤ spacing + 4 ∧ spacing ≤ r + 4 ∧ spacing ≤ 250000 :=
      decide_eq_true_iff
    rw [hdecide]
    simp only [Option.some.injEq, forall_eq', Nat.sub_le_iff_le_add]
    exact ⟨fun ⟨h1, h2, h3⟩ => ⟨h3, h1, h2⟩, fun ⟨h3, h1, h2⟩ => ⟨h1, h2, h3⟩⟩

/-- R25's test of a successor: number, S and spacing. -/
def Passes (k : Candidate) (reference : Option Nat) (time : Nat) (a b : Word) : Prop :=
  a = k.number + 1 ∧ slotsOf b = k.slots ∧ time - k.time ≤ 250000 ∧
    ∀ r, reference = some r → r - 4 ≤ time - k.time ∧ time - k.time ≤ r + 4

section Successor
variable {k : Candidate} {time : Nat} {a b : Word}

theorem judgeSuccessor_passes (h : Passes k s.framer.reference time a b) :
    judgeSuccessor k time a b s = if k.target ≤ k.good then enterLocked time (time - k.time) a b s
      else { s with framer := { s.framer with
        reference := some (s.framer.reference.getD (time - k.time)), candidate := some { k with number := a, time := time },
        judging := none, cycle := some (opened false a b) } } := by
  obtain ⟨hnumber, hslots, hspacing⟩ := h
  rw [judgeSuccessor]
  dsimp only
  rw [if_pos ⟨hnumber, (headerSlots_eq b).trans hslots, (spacingAcceptable_iff _ _).mpr hspacing⟩, candidateCycle_eq]
  rfl

theorem judgeSuccessor_restarts (h : ¬ Passes k s.framer.reference time a b) :
    judgeSuccessor k time a b s = enterConfirm time a b s := by
  refine if_neg fun hpass => h ?_
  obtain ⟨hnumber, hslots, hspacing⟩ := hpass
  exact ⟨hnumber, (headerSlots_eq b).symm.trans hslots, (spacingAcceptable_iff _ _).mp hspacing⟩

theorem exec_successor (hrun : s.inReset = false) (hj : s.framer.judging = some ⟨time, .successor, some a⟩)
    (hk : s.framer.candidate = some k) (hok : HeaderOk a b) :
    exec (.itemReceived (.word b) inputs []) s = .next (settle [] (afterItem (.word b) inputs s).framer
      (judgeSuccessor k time a b (afterItem (.word b) inputs s))) := by
  have hka : (afterItem (.word b) inputs s).framer.candidate = some k := hk
  rw [exec_headerItem hrun hj, headerItem_valid rfl hok, headerIsValid]
  dsimp only
  rw [hka]

end Successor

/-- Settles O14, by R25's test and the header. -/
theorem successorIsTheNewCandidateOrARestart : Obligations.SuccessorIsTheNewCandidateOrARestart := by
  refine ⟨fun k time a b inputs s hrun hj hk htime hok => ⟨fun hpass hgood => ?candidate, fun hpass => ?restarts⟩,
    fun time headerA inputs s hrun hj => ⟨fun a ha => ?headerA, fun a b ha hok => ?notValid, fun item hitem => ?noWord,
      ?judgedItself⟩⟩
  case candidate =>
    have hpass : Passes k (afterItem (.word b) inputs s).framer.reference time a b := hpass
    rw [exec_successor hrun hj hk hok, judgeSuccessor_passes hpass, if_neg (Nat.not_le.mpr hgood)]
    exact settles_as rfl rfl (Nat.le_refl _)
  case restarts =>
    have hpass : ¬ Passes k (afterItem (.word b) inputs s).framer.reference time a b := hpass
    rw [exec_successor hrun hj hk hok, judgeSuccessor_restarts hpass, enterConfirm_eq]
    exact settles_as rfl rfl (Nat.le_refl _)
  case headerA =>
    rw [exec_headerItem hrun hj, headerItem_headerA ha]
    exact settles_as rfl rfl (Nat.le_refl _)
  case notValid =>
    rw [exec_headerItem hrun hj, headerItem_notValid ha hok]
    exact settles_as rfl rfl (Nat.le_refl _)
  case noWord =>
    rw [exec_headerItem hrun hj, headerItem_noWord hitem]
    exact settles_as rfl rfl (Nat.le_refl _)
  case judgedItself =>
    rw [exec_headerItem hrun hj]
    exact settles_as rfl rfl (Nat.le_refl _)

/-! ## Failures and the loss of the link (R34 to R36, R86, R105; log 8) -/

theorem alerted_putChoice (k : AlertKind) (number d0 d1 : Word) (n : Nat) (s : State) :
    alerted k number d0 d1 (s.putChoice n) = { alerted k number d0 d1 s with choice := n } := by
  have hret : (s.putChoice n).ret = s.ret := rfl
  unfold alerted
  rw [hret]
  split <;> rfl

theorem tripped_putChoice (cause : Cause) (n : Nat) (s : State) :
    tripped cause (s.putChoice n) = { tripped cause s with choice := n } := by
  have hguard : (s.putChoice n).guard = s.guard := rfl
  have hret : (s.putChoice n).ret = s.ret := rfl
  unfold tripped alerted
  rw [hguard]
  split
  · dsimp only
    rw [hret]
    split <;> rfl
  · rfl

theorem raiseLinkLoss_eq (s : State) :
    raiseLinkLoss [] s = { tripped .link (alerted .linkLost (lastAccepted s) 0 0 s) with choice := s.choice + 1 } ∨
      raiseLinkLoss [] s = { alerted .linkLost (lastAccepted s) 0 0 (tripped .link s) with choice := s.choice + 1 } := by
  unfold raiseLinkLoss
  dsimp only
  rw [interleave_nothing]
  split
  · refine .inr ?_
    simp only [List.foldl_cons, List.foldl_nil, queueAlert_eq, trip_eq, lastNumber_eq]
    rw [tripped_putChoice]
    exact alerted_putChoice _ _ _ _ (s.choice + 1) (tripped .link s)
  · refine .inl ?_
    simp only [List.foldl_cons, List.foldl_nil, queueAlert_eq, trip_eq, lastNumber_eq]
    rw [alerted_putChoice]
    exact tripped_putChoice _ (s.choice + 1) _

/-- The link is lost on the state a failure has left (R36). -/
theorem linkLost_loseLink {t : State} {n : Nat} (ht : t = { s with framer := { s.framer with failures := n } }) :
    LinkLost s (loseLink [] t) := by
  subst ht
  unfold loseLink
  rw [discardReady_eq]
  exact raiseLinkLoss_eq _

theorem takeFailure_locked (h : s.framer.acquisition = .locked) :
    takeFailure s = { s with framer := { s.framer with acquisition := .coasting, failures := 1 } } := by
  rw [takeFailure, h]
  rfl

theorem takeFailure_coasting (h : s.framer.acquisition = .coasting) :
    takeFailure s = { s with framer := { s.framer with failures := s.framer.failures + 1 } } := by
  rw [takeFailure, h]
  rfl

/-- Where F is not above the coast limit, or was not counted up in COASTING, nothing is settled. -/
theorem settle_notAbove {before : Framer} {t : State} (ha : t.framer.acceptedCount = before.acceptedCount)
    (h : before.acquisition ≠ .coasting ∨ t.framer.failures ≤ t.params.coastLimit.toNat) : settle [] before t = t := by
  rw [settle, accepted_of_same ha, if_neg Bool.false_ne_true, if_neg]
  rw [exceeds_iff]
  rintro ⟨hcoasting, -, habove⟩
  exact h.elim (absurd hcoasting) fun hle => absurd hle (Nat.not_le.mpr habove)

/-- A failure, settled, is R34's, R35's or R36's. -/
theorem fails_settle {before : Framer} (ha : s.framer.acceptedCount = before.acceptedCount)
    (hq : s.framer.acquisition = before.acquisition) (hf : s.framer.failures = before.failures) :
    Fails s (settle [] before (takeFailure s)) where
  locked h := by
    rw [takeFailure_locked h]
    exact settle_notAbove ha (.inl (by rw [← hq, h]; decide))
  coasting h hle := by
    rw [takeFailure_coasting h]
    exact settle_notAbove ha (.inr hle)
  lost h habove := by
    have hmore : before.failures < s.framer.failures + 1 := Nat.lt_succ_of_le (Nat.le_of_eq hf.symm)
    rw [takeFailure_coasting h, settle_lost (s := { s with framer := { s.framer with failures := s.framer.failures + 1 } })
      ha (hq.symm.trans h) hmore habove]
    exact linkLost_loseLink rfl

theorem missCycle_missed (s : State) : missCycle s = takeFailure (missed s) :=
  missCycle_eq s

/-! ## Windows (R27 to R29, R33) -/

section Window
variable {m : Marker} {r time : Nat} {headerA : Option Word}

theorem fails_missCycle (before : Framer) (ha : s.framer.acceptedCount = before.acceptedCount)
    (hq : s.framer.acquisition = before.acquisition) (hf : s.framer.failures = before.failures) :
    Fails (missed s) (settle [] before (missCycle s)) := by
  rw [missCycle_missed]
  exact fails_settle ha hq hf

theorem expectedTime_eq (hm : s.framer.last = some m) (hr : s.framer.reference = some r) :
    expectedTime s = some (m.time + s.framer.position * r) := by
  rw [expectedTime, hm, hr]

theorem inWindow_iff (hm : s.framer.last = some m) (hr : s.framer.reference = some r) : inWindow time s = true ↔
    m.time + s.framer.position * r ≤ time + 4 ∧ time ≤ m.time + s.framer.position * r + 4 := by
  rw [inWindow, expectedTime_eq hm hr]
  exact decide_eq_true_iff

theorem windowCloses_iff (hm : s.framer.last = some m) (hr : s.framer.reference = some r) :
    windowCloses time s = true ↔ time = m.time + s.framer.position * r + 4 := by
  rw [windowCloses, expectedTime_eq hm hr]
  exact beq_iff_eq

theorem windowReached_iff (hm : s.framer.last = some m) (hr : s.framer.reference = some r) : windowReached s = true ↔
    (s.inReset = false ∧ follows s = true) ∧ s.framer.cycle = none ∧
      m.time + s.framer.position * r ≤ s.framer.now + 4 := by
  rw [windowReached, expectedTime_eq hm hr]
  simp only [Bool.and_eq_true, followsRing_iff, ← follows_iff, Option.isNone_iff_eq_none, decide_eq_true_eq, and_assoc]
  rfl

theorem gapItem_following (hf : follows s = true) : gapItem item s =
    if item = .marker ∧ inWindow s.framer.now s = true then beginJudging .window s
    else
      let t := setFlagIf (item == .marker) .strayMarker s
      if windowCloses s.framer.now t = true then missCycle t else t := by
  obtain h | h := (follows_iff s).mp hf <;> rw [gapItem, h]

theorem headerItem_windowMarker (s : State) : headerItem ⟨time, .window, headerA⟩ .marker s =
    missCycle (setFlag .strayMarker s) := by
  cases headerA <;> rfl

/-- A refused header in its window is a missed cycle (R28, R33). -/
theorem headerItem_refused (hm : s.framer.last = some m)
    (h : item = .idle ∨ item = .fault ∨ item = .marker ∨ ∃ a b, headerA = some a ∧ item = .word b ∧ (¬ HeaderOk a b ∨
      a ≠ m.number + BitVec.ofNat 16 s.framer.position ∨ s.framer.slotCount ≠ some (slotsOf b))) :
    headerItem ⟨time, .window, headerA⟩ item (afterItem item inputs s) = missCycle (afterStray item inputs s) := by
  obtain rfl | rfl | rfl | ⟨a, b, rfl, rfl, hbad⟩ := h
  · rfl
  · rfl
  · exact headerItem_windowMarker _
  · by_cases hok : HeaderOk a b
    · refine (headerItem_valid rfl hok _).trans (if_neg ?_)
      rintro ⟨hnumber, hslots⟩
      have hlast : lastNumber (afterItem (.word b) inputs s) = m.number := by
        rw [lastNumber_eq]
        exact congrArg (fun x => (Option.map Marker.number x).getD 0) hm
      rw [hlast] at hnumber
      obtain h | h | h := hbad
      · exact h hok
      · exact h hnumber
      · exact h (by rw [← headerSlots_eq]; exact hslots)
    · exact headerItem_notValid rfl hok _

end Window

/-- Settles O18, by the item and the window. -/
theorem windowsJudgeRefuseAndCloseOnMarkers : Obligations.WindowsJudgeRefuseAndCloseOnMarkers := by
  refine ⟨fun m time headerA item inputs s hrun hf hm hj => ⟨fun a ha hitem => ?headerA, fun hrefused => ?refused⟩,
    fun m r item inputs s hrun hf hj hc hm hr => ?between⟩
  case headerA =>
    subst hitem
    rw [exec_headerItem hrun hj, headerItem_headerA ha]
    exact settles_as rfl rfl (Nat.le_refl _)
  case refused =>
    refine ⟨_, exec_headerItem hrun hj, ?_⟩
    rw [headerItem_refused hm hrefused]
    refine fails_missCycle _ ?_ ?_ ?_ <;> unfold afterStray <;> split <;> rfl
  case between =>
    have hgap (item : Item) := gapItem_following (item := item) (s := afterItem item inputs s) hf
    have hwindow (item : Item) : inWindow (s.framer.now + 1) (afterItem item inputs s) = true ↔ _ :=
      inWindow_iff (s := afterItem item inputs s) hm hr
    have hcloses (item : Item) : windowCloses (s.framer.now + 1) (afterItem item inputs s) = true ↔ _ :=
      windowCloses_iff (s := afterItem item inputs s) hm hr
    refine ⟨fun hout => ?stray, fun hin => ?judged, fun hitem hopen => ?waits, fun hitem hlast => ?missed⟩
    case stray =>
      have htaken : gapItem .marker (afterItem .marker inputs s) = setFlag .strayMarker (afterItem .marker inputs s) := by
        rw [hgap .marker, if_neg fun h => absurd ((hwindow .marker).mp h.2) (by dsimp only [afterItem]; omega)]
        exact if_neg (mt (hcloses .marker).mp (by dsimp only [afterItem]; omega))
      rw [exec_gapItem hrun hj hc, htaken]
      exact settles_as rfl rfl (Nat.le_refl _)
    case judged =>
      have htaken : gapItem .marker (afterItem .marker inputs s) = beginJudging .window (afterItem .marker inputs s) := by
        rw [hgap .marker]
        exact if_pos ⟨rfl, (hwindow .marker).mpr hin⟩
      rw [exec_gapItem hrun hj hc, htaken]
      exact settles_as rfl rfl (Nat.le_refl _)
    case waits =>
      have htaken : gapItem item (afterItem item inputs s) = afterItem item inputs s := by
        rw [hgap item, if_neg fun h => hitem h.1, beq_eq_false_iff_ne.mpr hitem]
        exact if_neg (mt (hcloses item).mp hopen)
      rw [exec_gapItem hrun hj hc, htaken]
      exact settles_as rfl rfl (Nat.le_refl _)
    case missed =>
      have htaken : gapItem item (afterItem item inputs s) = missCycle (afterItem item inputs s) := by
        rw [hgap item, if_neg fun h => hitem h.1, beq_eq_false_iff_ne.mpr hitem]
        exact if_pos ((hcloses item).mpr hlast)
      have hreached : windowReached (afterItem item inputs s) = true :=
        (windowReached_iff (s := afterItem item inputs s) hm hr).mpr
          ⟨⟨hrun, hf⟩, hc, by dsimp only [afterItem]; omega⟩
      rw [exec_gapItem hrun hj hc, htaken]
      exact congrArg _ (if_pos hreached).symm

/-! ## CYCLE_MISSED (R33; log 20) -/

theorem readyDropped_of_none (h : ∀ i : Fin 8, s.channels[i].ready = none) : readyDropped s = s := by
  have hflags : ¬ ∃ i : Fin 8, s.channels[i].ready.isSome = true := by
    rintro ⟨i, hi⟩
    rw [h i] at hi
    exact Bool.false_ne_true hi
  have hchannels : (Vector.ofFn fun i : Fin 8 => { s.channels[i] with ready := none }) = s.channels := by
    refine Vector.ext fun i hi => ?_
    rw [Vector.getElem_ofFn]
    have hready : s.channels[i].ready = none := h ⟨i, hi⟩
    show ({ s.channels[i] with ready := none } : Channel) = s.channels[i]
    rw [← hready]
  unfold readyDropped
  rw [hchannels, if_neg hflags]

theorem readyDropped_missed (s : State) : readyDropped (missed s) = missed s := by
  refine readyDropped_of_none fun i => ?_
  show (Vector.ofFn fun i : Fin 8 => { s.channels[i] with ready := none })[i].ready = none
  rw [Fin.getElem_fin, Vector.getElem_ofFn]

/-- Settles O19, by F and the coast limit. -/
theorem missedCycleCoastsOrLosesTheLink : Obligations.MissedCycleCoastsOrLosesTheLink := by
  intro m r s hrun hc hm hr hreached
  have hexec (hf : follows s = true) : exec .cycleMissed s = .next (settle [] s.framer (missCycle s)) :=
    congrArg _ (if_pos ((windowReached_iff hm hr).mpr ⟨⟨hrun, hf⟩, hc, hreached⟩))
  have hfails := fails_missCycle (s := s) s.framer rfl rfl rfl
  have hnumber : lastAccepted (missed s) = m.number := congrArg (fun x => (Option.map Marker.number x).getD 0) hm
  refine ⟨fun h => ?locked, fun h hle => ?coasting, fun h habove => ?lost⟩
  case locked =>
    rw [hexec ((follows_iff s).mpr (.inl h)), hfails.locked h]
    rfl
  case coasting =>
    rw [hexec ((follows_iff s).mpr (.inr h)), hfails.coasting h hle]
    rfl
  case lost =>
    have hlost := hfails.lost h habove
    unfold LinkLost at hlost
    rw [readyDropped_missed, hnumber] at hlost
    rw [hexec ((follows_iff s).mpr (.inr h))]
    exact hlost.imp (congrArg Host.Outcome.next) (congrArg Host.Outcome.next)

/-! ## What spoils an accepted cycle (R29, R32) -/

section Spoiled
variable {c d : Cycle}

theorem spoilCycle_spoiled (d : Cycle) (s : State) : spoilCycle d s = takeFailure (spoiled d s) := by
  unfold spoilCycle
  dsimp only
  rw [countMissed_eq]
  rfl

theorem damagedSlot_takeFailure (s : State) : damagedSlot (takeFailure s) = takeFailure (damagedSlot s) := by
  have hsame : (damagedSlot s).framer = s.framer := rfl
  cases h : s.framer.acquisition <;> simp only [takeFailure, hsame, h] <;> rfl

theorem endCycle_takeFailure (hd : s.framer.cycle = some d) : endCycle (takeFailure s) =
    takeFailure { s with fwd := adjustTrailer d.net s.fwd, framer := { s.framer with cycle := none } } := by
  rw [endCycle_of_cycle (c := d) (by rw [takeFailure_framer, failed_cycle, hd])]
  cases h : s.framer.acquisition <;> simp only [takeFailure, h] <;> rfl

/-- The state in which an item has been counted, stray where it is a MARKER. -/
theorem counted_eq (item : Item) (inputs : Byte) (d : Cycle) (s : State) :
    setFlagIf (item == .marker) .strayMarker ((afterItem item inputs s).putFramer
      { (afterItem item inputs s).framer with cycle := some d }) =
      { afterStray item inputs s with framer := { (afterStray item inputs s).framer with cycle := some d } } := by
  cases item <;> rfl

theorem afterStray_framer (item : Item) (inputs : Byte) (s : State) :
    (afterStray item inputs s).framer = { s.framer with now := s.framer.now + 1 } := by
  cases item <;> rfl

theorem afterStray_fwd (item : Item) (inputs : Byte) (s : State) : (afterStray item inputs s).fwd = forwardItem item s.fwd := by
  cases item <;> rfl

theorem spoils_early (hitem : item = .idle ∨ item = .marker) (hstatus : d.status = .running) (hlt : d.pos < trailerPos d) :
    spoils item d = true := by
  rw [spoils_before hlt, hstatus]
  obtain rfl | rfl := hitem <;> rfl

theorem spoils_trailer (hstatus : d.status = .running) (hpos : ¬ d.pos < trailerPos d)
    (h : item ≠ .word d.sum ∨ d.checkFault = true) : spoils item d = true := by
  have hchecks : trailerChecks item d = false := by
    rw [trailerChecks, Bool.and_eq_false_iff]
    exact h.imp beq_eq_false_iff_ne.mpr (by intro h; rw [h]; rfl)
  rw [spoils, if_neg hpos, hchecks, hstatus, Bool.not_false, Bool.or_true]
  rfl

end Spoiled

/-- A failure at an item is settled against the framer as the item found it. -/
theorem fails_settle_arrived {u : State} (hu : u.framer = { (afterStray item inputs s).framer with cycle := u.framer.cycle }) :
    Fails u (settle [] (afterItem item inputs s).framer (takeFailure u)) := by
  refine fails_settle ?_ ?_ ?_ <;> rw [hu, afterStray_framer] <;> rfl

/-- Settles O20, by the position of the item. -/
theorem itemsSpoilAnAcceptedCycle : Obligations.ItemsSpoilAnAcceptedCycle := by
  refine ⟨fun c item inputs s hrun hf hj hc hacc hstatus hpos => ⟨fun hitem hlt hmod => ?between,
      fun hitem hlt hmod => ?check, fun htrailer hbad => ?trailer, fun hitem hlt hmod => ?fault⟩,
    fun c item inputs s hrun hj hc hacc hspoiled htrailer hmarker => ?ends⟩
  case between =>
    refine ⟨_, exec_acceptedItem hrun hj hc hacc (fun _ => hf) (.inr (.inl (Nat.ne_of_lt hlt))), ?_⟩
    rw [acceptedItem_between hlt (isCheckPos_false hpos hlt hmod)]
    dsimp only
    rw [spoils_early (d := { c with pos := c.pos + 1 }) hitem hstatus hlt, if_pos rfl, counted_eq, spoilCycle_spoiled]
    exact fails_settle_arrived (u := spoiled { c with pos := c.pos + 1 } (afterStray item inputs s)) rfl
  case check =>
    have hcheck := (isCheckPos_iff hpos hlt).mpr hmod
    have hword : ∀ v, item ≠ .word v := by
      rintro v rfl
      simp at hitem
    refine ⟨_, exec_acceptedItem hrun hj hc hacc (fun _ => hf) (.inr (.inl (Nat.ne_of_lt hlt))), ?_⟩
    rw [acceptedItem_check hlt hcheck, advanceCycle_checkNoWord hword hcheck]
    dsimp only
    rw [spoils_early (d := { c with pos := c.pos + 1, checkFault := true }) hitem hstatus hlt, if_pos rfl, if_pos rfl,
      counted_eq, decideSlot_damaged, spoilCycle_spoiled, damagedSlot_takeFailure]
    · exact fails_settle_arrived
        (u := damagedSlot (spoiled { c with pos := c.pos + 1, checkFault := true } (afterStray item inputs s))) rfl
    · intro sl hsl
      rw [spoilCycle_fwd, afterStray_fwd, slotOfItems_forwardItem hword] at hsl
      cases hsl
  case trailer =>
    refine ⟨_, exec_acceptedItem hrun hj hc hacc (fun _ => hf) (.inr (.inr hbad)), ?_⟩
    have hnot : ¬ c.pos + 1 < 8 * c.slots + 3 := Nat.not_lt.mpr (Nat.le_of_eq htrailer.symm)
    rw [acceptedItem_trailer _ htrailer rfl]
    dsimp only
    rw [spoils_trailer (d := { c with pos := c.pos + 1 }) hstatus hnot hbad, if_pos rfl, counted_eq, spoilCycle_spoiled,
      endCycle_takeFailure (d := { c with pos := c.pos + 1, status := .spoiled }) rfl, ← afterStray_fwd item inputs s]
    cases item <;> exact fails_settle_arrived (u := { spoiled c (afterStray _ inputs s) with
      fwd := adjustTrailer c.net (afterStray _ inputs s).fwd
      framer := { s.framer with now := s.framer.now + 1, cycle := none } }) rfl
  case fault =>
    subst hitem
    have hcheck := (isCheckPos_iff hpos hlt).mpr hmod
    have hquiet : spoils .fault { c with pos := c.pos + 1, checkFault := true } = false := by
      rw [spoils_before (d := { c with pos := c.pos + 1, checkFault := true }) hlt]
      exact Bool.and_false _
    rw [exec_acceptedItem hrun hj hc hacc (fun _ => hf) (.inr (.inl (Nat.ne_of_lt hlt))), acceptedItem_check hlt hcheck,
      advanceCycle_checkNoWord (by simp) hcheck]
    dsimp only
    rw [hquiet, if_neg Bool.false_ne_true, if_neg Bool.false_ne_true, decideSlot_damaged]
    · exact settles_as rfl rfl (Nat.le_refl _)
    · intro sl hsl
      have hnone : slotOfItems (lastSlotItems (forwardItem .fault s.fwd)) = some sl := hsl
      rw [slotOfItems_forwardItem (by simp)] at hnone
      cases hnone
  case ends =>
    have hnot : c.status ≠ .running := by
      rw [hspoiled]
      decide
    rw [exec_acceptedItem hrun hj hc hacc hmarker (.inl hnot), acceptedItem_trailer _ htrailer rfl]
    dsimp only
    rw [spoils_of_not_running (d := { c with pos := c.pos + 1 }) hnot, if_neg Bool.false_ne_true, counted_eq,
      endCycle_of_cycle (c := { c with pos := c.pos + 1 }) rfl, ← afterStray_fwd item inputs s]
    cases item <;> exact settles_as rfl rfl (Nat.le_refl _)

end Sys2Proof.Machine
end

section
/-! PROOFS. The accepted marker (R26, R28, R30): what the other blocks do at it, and the records it raises (R51, R52, R85, R116 to
R123, R137 to R141). -/

namespace Sys2Proof.Machine

open Sys2Proof.Safety

/-! ## Records handed over one after another (R123, R131) -/

section Queue
variable {rs : List Raised} {s : State}

theorem queueAtMarker_eq (rs : List Raised) (s : State) :
    queueAtMarker [] rs s = queueAll (arrange rs (Config.arrivalOrder s.choice)) (s.putChoice (s.choice + 1)) := by
  rw [queueAtMarker, interleave_nothing, List.foldl_map]
  rfl

/-- A record that waits goes on waiting. -/
theorem mem_queueAll_of_mem {w : Waiting} (rs : List Raised) (h : w ∈ s.ret.events) : w ∈ (queueAll rs s).ret.events := by
  obtain ⟨queued, _, _, _, _, heq⟩ := queueAll_only rs s
  rw [heq]
  exact List.mem_append_left queued h

theorem queueRaised_length_le (r : Raised) (s : State) :
    (queueRaised r s).ret.events.length ≤ s.ret.events.length + 1 := by
  cases r with
  | event e =>
    rw [queueRaised, queueEvent]
    split
    · exact Nat.le_of_eq (List.length_append ..)
    · rw [queueOverflow_eq]
      show (if _ then s.ret.events ++ [Waiting.overflow] else s.ret.events).length ≤ _
      split
      · exact Nat.le_of_eq (List.length_append ..)
      · exact Nat.le_succ _
  | alert a =>
    rw [queueRaised, queueAlert]
    split
    · exact Nat.le_of_eq (List.length_append ..)
    · exact Nat.le_succ _

/-- The record a raised one waits as. -/
def waitingOf : Raised → Waiting
  | .event e => .event e
  | .alert a => .alert a

/-- How many records may wait for one of a kind to be admitted (R123, R131). -/
def placesFor : Raised → Nat
  | .event _ => 14
  | .alert _ => 16

theorem queueRaised_admits {r : Raised} (h : s.ret.events.length < placesFor r) :
    waitingOf r ∈ (queueRaised r s).ret.events := by
  cases r with
  | event e =>
    have hin : queueRaised (.event e) s = _ := queueEvent_admitted h
    rw [hin]
    exact List.mem_append_right _ (.head _)
  | alert a =>
    have hin : queueRaised (.alert a) s = s.putRet { s.ret with events := s.ret.events ++ [.alert a] } := if_pos h
    rw [hin]
    exact List.mem_append_right _ (.head _)

/-- A raised record is queued where every one raised with it finds a place. -/
theorem queueAll_admits {r : Raised} (hr : r ∈ rs) (h : s.ret.events.length + rs.length ≤ placesFor r) :
    waitingOf r ∈ (queueAll rs s).ret.events := by
  induction rs generalizing s with
  | nil => cases hr
  | cons x rs ih =>
    rw [List.length_cons] at h
    show waitingOf r ∈ (queueAll rs (queueRaised x s)).ret.events
    obtain rfl | hr := List.mem_cons.mp hr
    · exact mem_queueAll_of_mem rs (queueRaised_admits (by omega))
    · exact ih hr (by have := queueRaised_length_le x s; omega)

theorem queueAtMarker_admits {r : Raised} (hr : r ∈ rs) (h : s.ret.events.length + rs.length ≤ placesFor r) :
    waitingOf r ∈ (queueAtMarker [] rs s).ret.events := by
  have hperm := arrange_perm rs (Config.arrivalOrder s.choice)
  rw [queueAtMarker_eq]
  refine queueAll_admits (hperm.mem_iff.mpr hr) ?_
  rw [hperm.length_eq]
  exact h

theorem queueRaised_event {r : Raised} {e : Event} (h : .event e ∈ (queueRaised r s).ret.events) :
    .event e ∈ s.ret.events ∨ r = .event e := by
  cases r with
  | event x =>
    rw [queueRaised, queueEvent] at h
    split at h
    · refine (List.mem_append.mp h).imp_right fun hx => ?_
      obtain rfl : e = x := by simpa using hx
      rfl
    · rw [queueOverflow_eq] at h
      have h : Waiting.event e ∈ (if _ then s.ret.events ++ [Waiting.overflow] else s.ret.events) := h
      split at h
      · exact .inl (by simpa using h)
      · exact .inl h
  | alert a =>
    rw [queueRaised, queueAlert] at h
    split at h
    · refine .inl ((List.mem_append.mp h).resolve_right fun hx => ?_)
      simp at hx
    · exact .inl h

theorem queueAll_event {e : Event} (h : .event e ∈ (queueAll rs s).ret.events) :
    .event e ∈ s.ret.events ∨ .event e ∈ rs := by
  induction rs generalizing s with
  | nil => exact .inl h
  | cons x rs ih =>
    obtain hq | hin := ih (s := queueRaised x s) h
    · exact (queueRaised_event hq).imp_right fun hx => by
        rw [hx]
        exact .head _
    · exact .inr (.tail _ hin)

/-- No EVENT waits after a marker but those that waited and those raised at it. -/
theorem queueAtMarker_event {e : Event} (h : .event e ∈ (queueAtMarker [] rs s).ret.events) :
    .event e ∈ s.ret.events ∨ .event e ∈ rs := by
  rw [queueAtMarker_eq] at h
  exact (queueAll_event h).imp_right (arrange_perm rs _).mem_iff.mp

end Queue

/-! ## The sample (R116 to R122) -/

section Sample
variable {number modes : Word} {sm : Sampler}

theorem sampleLine_eq (confirm : Word) (raw : Bool) (l : InputLine) :
    sampleLine confirm raw l = sampledInput false confirm raw l := by
  unfold sampleLine sampledInput runAfter
  by_cases hc : confirm.toNat ≤ (if l.lastRaw = some raw then min (l.run + 1) 4 else 1)
  · by_cases hr : raw = l.qualified
    · simp [hr]
    · simp [hc, hr]
  · simp [hc]

theorem sampledLines_line (confirm : Word) (inputs : Byte) (sm : Sampler) (i : Fin 8) :
    (sampledLines confirm inputs sm).lines[i] = sampledInput sm.first confirm (inputs.getLsbD i) sm.lines[i] := by
  show (Vector.ofFn fun i : Fin 8 => if sm.first then firstSampleLine (placeOf inputs i) else
    sampleLine confirm (placeOf inputs i) sm.lines[i])[i] = _
  rw [Fin.getElem_fin, Vector.getElem_ofFn]
  cases sm.first with
  | true => rfl
  | false => exact sampleLine_eq confirm (inputs.getLsbD i) sm.lines[i]

theorem edgeModeOf_getLsbD (v : Word) (i : Fin 8) (k : Nat) (hk : k < 2) :
    (edgeModeOf v i).getLsbD k = v.getLsbD (2 * i.val + k) := by
  simp [edgeModeOf, hk]

/-- The rising edge of an input (R121). -/
def rises (modes : Word) (sm : Sampler) (i : Fin 8) : Bool :=
  sm.lines[i].changed && sm.lines[i].qualified && modes.getLsbD (2 * i.val)

/-- The falling edge of an input (R121). -/
def falls (modes : Word) (sm : Sampler) (i : Fin 8) : Bool :=
  sm.lines[i].changed && !sm.lines[i].qualified && modes.getLsbD (2 * i.val + 1)

theorem risingEdge_eq (i : Fin 8) : risingEdge modes i sm.lines[i] = rises modes sm i := by
  rw [risingEdge, edgeModeOf_getLsbD modes i 0 (by decide)]
  rfl

theorem fallingEdge_eq (i : Fin 8) : fallingEdge modes i sm.lines[i] = falls modes sm i := by
  rw [fallingEdge, edgeModeOf_getLsbD modes i 1 (by decide)]
  rfl

theorem byteOf_eq_zero (f : Fin 8 → Bool) : byteOf f = 0 ↔ ∀ i, f i = false := by
  refine ⟨fun h i => ?_, fun h => ?_⟩
  · rw [← byteOf_getLsbD f i, h]
    exact BitVec.getLsbD_zero
  · obtain rfl : f = fun _ => false := funext h
    rfl

/-- The EVENT of a sample in which an input has an edge (R122). -/
def eventOf (number modes : Word) (sm : Sampler) : Event :=
  ⟨number, byteOf fun i => sm.lines[i].qualified, byteOf (rises modes sm), byteOf (falls modes sm)⟩

theorem eventOf_places (number modes : Word) (sm : Sampler) (i : Fin 8) :
    (eventOf number modes sm).levels.getLsbD i = sm.lines[i].qualified ∧
      (eventOf number modes sm).rising.getLsbD i = rises modes sm i ∧
      (eventOf number modes sm).falling.getLsbD i = falls modes sm i :=
  ⟨byteOf_getLsbD (fun i => sm.lines[i].qualified) i, byteOf_getLsbD (rises modes sm) i, byteOf_getLsbD (falls modes sm) i⟩

theorem sampleEvent_eq : sampleEvent number modes sm =
    if (∀ i, rises modes sm i = false) ∧ ∀ i, falls modes sm i = false then [] else [.event (eventOf number modes sm)] := by
  unfold sampleEvent
  simp only [risingEdge_eq, fallingEdge_eq, byteOf_eq_zero]
  rfl

end Sample

/-! ## The other blocks' part at an accepted marker (R51, R85, R116, R137) -/

section Marker
variable {a : Word} {u : State}

/-- The state in which the retry test is taken: after swap, apply instant and sample. -/
def sampled (a : Word) (u : State) : State :=
  (takeSample a (applyInstant (commitTest a u).1)).1

/-- The records of swap, sample and retry test (R52, R122, R141). -/
def markerRecords (a : Word) (u : State) : List Raised :=
  (commitTest a u).2 ++ sampleEvent a u.params.edgeModes (sampled a u).sampler ++ (retryTest (sampled a u)).2

theorem commitTest_only (a : Word) (u : State) : (commitTest a u).1 = { u with plan := (commitTest a u).1.plan } := by
  unfold commitTest
  split
  · rfl
  · dsimp only
    split <;> rfl

theorem commitTest_raises (a : Word) (u : State) :
    ∃ alerts : List Alert, alerts.length ≤ 1 ∧ (commitTest a u).2 = alerts.map .alert := by
  unfold commitTest
  split
  · exact ⟨[], Nat.zero_le _, rfl⟩
  · dsimp only
    split
    · exact ⟨[_], Nat.le_refl _, rfl⟩
    · exact ⟨[], Nat.zero_le _, rfl⟩

theorem sampled_eq (a : Word) (u : State) : sampled a u = { u with
    plan := (commitTest a u).1.plan
    channels := Vector.ofFn fun i => appliedChannel u.guard.state u.channels[i]
    sampler := sampledLines u.params.confirmCount u.pins.inputs u.sampler } := by
  unfold sampled
  rw [applyInstant_eq, commitTest_only]
  rfl

theorem retryTest_only (s : State) : (retryTest s).1 = { s with
    ret := { s.ret with inFlight := (retryTest s).1.ret.inFlight, resendAt := (retryTest s).1.ret.resendAt }
    flags := (retryTest s).1.flags
    counters := (retryTest s).1.counters } := by
  unfold retryTest
  split
  · rfl
  · rfl
  · split
    · rfl
    · split <;> rfl

theorem retryTest_raises (s : State) :
    ∃ alerts : List Alert, alerts.length ≤ 1 ∧ (retryTest s).2 = alerts.map .alert := by
  unfold retryTest
  split
  · exact ⟨[], Nat.zero_le _, rfl⟩
  · exact ⟨[], Nat.zero_le _, rfl⟩
  · split
    · exact ⟨[], Nat.zero_le _, rfl⟩
    · split
      · exact ⟨[], Nat.zero_le _, rfl⟩
      · exact ⟨[_], Nat.le_refl _, rfl⟩

theorem sampleEvent_length_le (number modes : Word) (sm : Sampler) : (sampleEvent number modes sm).length ≤ 1 := by
  rw [sampleEvent_eq]
  split
  · exact Nat.zero_le _
  · exact Nat.le_refl _

theorem markerRecords_length_le (a : Word) (u : State) : (markerRecords a u).length ≤ 3 := by
  obtain ⟨swaps, hswaps, hswap⟩ := commitTest_raises a u
  obtain ⟨tests, htests, htest⟩ := retryTest_raises (sampled a u)
  have hevent := sampleEvent_length_le a u.params.edgeModes (sampled a u).sampler
  rw [markerRecords, hswap, htest, List.length_append, List.length_append, List.length_map, List.length_map]
  omega

/-- Of the records of a marker only the sample's is an EVENT. -/
theorem event_mem_markerRecords {e : Event} (h : .event e ∈ markerRecords a u) :
    .event e ∈ sampleEvent a u.params.edgeModes (sampled a u).sampler := by
  obtain ⟨swaps, -, hswap⟩ := commitTest_raises a u
  obtain ⟨tests, -, htest⟩ := retryTest_raises (sampled a u)
  rw [markerRecords, hswap, htest] at h
  simpa using h

theorem atAcceptedMarker_eq (a : Word) (raised : List Raised) (u : State) :
    atAcceptedMarker [] a raised u = queueAtMarker [] (raised ++ markerRecords a u) (retryTest (sampled a u)).1 := by
  have hparams : (applyInstant (commitTest a u).1).params = u.params := by
    rw [applyInstant_eq, commitTest_only]
  rw [markerRecords, ← hparams, ← List.append_assoc, ← List.append_assoc]
  rfl

/-- What an accepted marker leaves: plan, channels, sampler, the in-flight list and the records it raises. -/
theorem atAcceptedMarker_only (a : Word) (raised : List Raised) (u : State) : ∃ queued lost firstLoss more eventsLost,
    atAcceptedMarker [] a raised u = { u with
      plan := (commitTest a u).1.plan
      channels := Vector.ofFn fun i => appliedChannel u.guard.state u.channels[i]
      sampler := sampledLines u.params.confirmCount u.pins.inputs u.sampler
      ret := { u.ret with
        inFlight := (retryTest (sampled a u)).1.ret.inFlight
        resendAt := (retryTest (sampled a u)).1.ret.resendAt
        events := u.ret.events ++ queued
        lost := lost
        firstLoss := firstLoss }
      flags := (retryTest (sampled a u)).1.flags ||| more
      counters := { (retryTest (sampled a u)).1.counters with eventsLost := eventsLost }
      choice := u.choice + 1 } := by
  obtain ⟨queued, lost, firstLoss, more, eventsLost, h⟩ :=
    queueAtMarker_only (raised ++ markerRecords a u) (retryTest (sampled a u)).1
  refine ⟨queued, lost, firstLoss, more, eventsLost, ?_⟩
  have hsampled := sampled_eq a u
  rw [atAcceptedMarker_eq, h]
  generalize sampled a u = v at hsampled ⊢
  have htest := retryTest_only v
  generalize (retryTest v).1 = w at htest ⊢
  rw [htest, hsampled]

/-- A record of the marker is queued where all of them find a place. -/
theorem atAcceptedMarker_admits {r : Raised} {raised : List Raised} (hr : r ∈ raised ++ markerRecords a u)
    (h : u.ret.events.length + raised.length + 3 ≤ placesFor r) :
    waitingOf r ∈ (atAcceptedMarker [] a raised u).ret.events := by
  have hevents : (retryTest (sampled a u)).1.ret.events = u.ret.events := by
    rw [retryTest_only, sampled_eq]
  rw [atAcceptedMarker_eq]
  refine queueAtMarker_admits hr ?_
  have hlen := markerRecords_length_le a u
  rw [hevents, List.length_append]
  omega

theorem atAcceptedMarker_event {e : Event} {raised : List Raised} (hraised : .event e ∉ raised)
    (h : .event e ∈ (atAcceptedMarker [] a raised u).ret.events) :
    .event e ∈ u.ret.events ∨ .event e ∈ sampleEvent a u.params.edgeModes (sampled a u).sampler := by
  have hevents : (retryTest (sampled a u)).1.ret.events = u.ret.events := by
    rw [retryTest_only, sampled_eq]
  rw [atAcceptedMarker_eq] at h
  obtain h | h := queueAtMarker_event h
  · exact .inl (hevents ▸ h)
  · exact .inr (event_mem_markerRecords ((List.mem_append.mp h).resolve_left hraised))

end Marker

/-! ## The accepted marker (R26, R28, R30, R58) -/

section Accepted
variable {a b : Word} {inputs : Byte} {f : Framer} {s : State} {raised : List Raised}

/-- The station right after the framer has accepted a cycle at its header word B: empty staging and held list (R58). -/
def accepting (b : Word) (inputs : Byte) (f : Framer) (s : State) : State :=
  { afterItem (.word b) inputs s with
    framer := f
    channels := dropStaging s.channels
    engine := { s.engine with held := [] } }

theorem accepting_channel (i : Fin 8) :
    appliedChannel s.guard.state (dropStaging s.channels)[i] =
      { appliedChannel s.guard.state s.channels[i] with staged := none } := by
  rw [dropStaging, getElem_mapChannels]
  rfl

/-- The accepted marker does what R30 asks of the other blocks. -/
theorem markerTaken (hlast : f.last.map Marker.number = some a) (hraised : raised.length ≤ 1) :
    MarkerTaken a b f.acceptedCount inputs s (atAcceptedMarker [] a raised (accepting b inputs f s)) := by
  obtain ⟨queued, lost, firstLoss, more, eventsLost, ht⟩ := atAcceptedMarker_only a raised (accepting b inputs f s)
  have hadmits {r : Raised} (hr : r ∈ markerRecords a (accepting b inputs f s)) (h12 : s.ret.events.length ≤ 12)
      (h16 : placesFor r = 16) :=
    atAcceptedMarker_admits (raised := raised) (List.mem_append_right raised hr)
      (by rw [h16]; show s.ret.events.length + _ + 3 ≤ 16; omega)
  have hsampled := sampled_eq a (accepting b inputs f s)
  have hret : (sampled a (accepting b inputs f s)).ret = s.ret := by rw [hsampled]; rfl
  have hframer : (sampled a (accepting b inputs f s)).framer = f := by rw [hsampled]; rfl
  have hparams : (sampled a (accepting b inputs f s)).params = s.params := by rw [hsampled]; rfl
  have hcounters : (sampled a (accepting b inputs f s)).counters = s.counters := by rw [hsampled]; rfl
  have hnumber : lastAccepted (sampled a (accepting b inputs f s)) = a := by
    rw [lastAccepted, hframer, hlast]
    rfl
  refine {
    engine := by rw [ht]; rfl
    channels := fun i => ?channels
    firstSample := by rw [ht]; rfl
    lines := fun i => ?lines
    noCommit := fun h => ?noCommit
    early := fun target h he => ?early
    swapped := fun target h hat => ⟨?swapped, fun h12 => ?committed⟩
    noTest := fun h => ?noTest
    young := fun e rest hr hl hage => ?young
    resend := fun e rest hr hl hage hlimit => ?resend
    abandon := fun e rest newest hr hl hn hage hlimit => ?abandon
    queued := ⟨queued, by rw [ht]; rfl⟩
    forwarded := by rw [ht]; rfl
    pins := by rw [ht]; rfl
    frame := by rw [ht]; exact ⟨rfl, rfl, rfl, rfl, rfl⟩ }
  case channels =>
    rw [ht]
    show (Vector.ofFn fun i : Fin 8 => appliedChannel s.guard.state (dropStaging s.channels)[i])[i] = _
    rw [Fin.getElem_fin, Vector.getElem_ofFn]
    exact accepting_channel i
  case lines =>
    rw [ht]
    exact sampledLines_line s.params.confirmCount inputs s.sampler i
  case noCommit =>
    rw [ht, commitTest_noCommit (s := accepting b inputs f s) h]
    rfl
  case early =>
    rw [ht, commitTest_early (s := accepting b inputs f s) h he]
    rfl
  case swapped =>
    rw [ht, commitTest_swap (s := accepting b inputs f s) h hat]
    rfl
  case committed =>
    refine hadmits (r := .alert _) ?_ h12 rfl
    rw [markerRecords, commitTest_swap (s := accepting b inputs f s) h hat]
    exact .head _
  case noTest =>
    rw [ht, retryTest_none (by rw [hret]; exact h), hsampled]
    exact ⟨rfl, rfl, rfl⟩
  case young =>
    rw [ht, retryTest_young (by rw [hret]; exact hr) (by rw [hret]; exact hl) (by rw [hframer, hparams]; exact hage),
      hsampled]
    exact ⟨hr, rfl, rfl⟩
  case resend =>
    rw [ht, retryTest_resend (by rw [hret]; exact hr) (by rw [hret]; exact hl) (by rw [hframer, hparams]; exact hage)
      (by rw [hparams]; exact hlimit), hsampled]
    exact ⟨rfl, rfl, rfl⟩
  case abandon =>
    have htest := retryTest_abandon (newest := newest) (by rw [hret]; exact hr) (by rw [hret]; exact hl)
      (by rw [hret]; exact hn) (by rw [hframer, hparams]; exact hage) (by rw [hparams]; exact hlimit)
    refine ⟨?_, ?_, ?_, ?_, fun h12 => ?_⟩
    · rw [ht, htest, hret]
      exact hr
    · rw [ht, htest]
    · rw [ht, htest]
      show ((_ ||| 0x2000#16) ||| more).getLsbD 13 = true
      simp
    · rw [ht, htest, hret, hcounters]
    · refine hadmits (r := .alert _) ?_ h12 rfl
      rw [markerRecords, htest, hnumber]
      exact List.mem_append_right _ (.head _)

/-- The sample's EVENT at the accepted marker (R120 to R123), with room for all that the marker raises. -/
theorem sampleRaisesItsEvent {room : Nat} (hraised : ∀ e, .event e ∉ raised) (hroom : room + raised.length + 3 ≤ 14) :
    SampleRaisesItsEvent a room s (atAcceptedMarker [] a raised (accepting b inputs f s)) := by
  obtain ⟨queued, lost, firstLoss, more, eventsLost, ht⟩ := atAcceptedMarker_only a raised (accepting b inputs f s)
  have hsampler : (atAcceptedMarker [] a raised (accepting b inputs f s)).sampler =
      (sampled a (accepting b inputs f s)).sampler := by
    rw [ht, sampled_eq]
  have hparams : (accepting b inputs f s).params = s.params := rfl
  unfold SampleRaisesItsEvent
  rw [hsampler]
  refine ⟨fun hedge hwait => ⟨eventOf a s.params.edgeModes (sampled a (accepting b inputs f s)).sampler, ?queued, rfl,
    fun i => eventOf_places a s.params.edgeModes (sampled a (accepting b inputs f s)).sampler i⟩, fun hnone e he => ?none⟩
  case queued =>
    refine atAcceptedMarker_admits (r := .event _) (List.mem_append_right raised ?_) ?_
    · rw [markerRecords, hparams, sampleEvent_eq, if_neg]
      · simp
      · rintro ⟨hrises, hfalls⟩
        obtain ⟨i, hi | hi⟩ := hedge
        · exact Bool.false_ne_true ((hrises i).symm.trans hi)
        · exact Bool.false_ne_true ((hfalls i).symm.trans hi)
    · show s.ret.events.length + raised.length + 3 ≤ 14
      omega
  case none =>
    refine (atAcceptedMarker_event (hraised e) he).resolve_right ?_
    rw [hparams, sampleEvent_eq, if_pos ⟨fun i => (hnone i).1, fun i => (hnone i).2⟩]
    simp

/-! ### The expected marker (R28) -/

section Expected
variable {m : Marker} {time : Nat}

/-- The framer at the expected marker's header word B. -/
def expectedFramer (m : Marker) (time : Nat) (b : Word) (f : Framer) : Framer :=
  { f with
    now := f.now + 1
    last := some ⟨m.number + BitVec.ofNat 16 f.position, time⟩
    position := 1
    acceptedCount := f.acceptedCount + 1
    judging := none
    cycle := some (opened true (m.number + BitVec.ofNat 16 f.position) b) }

theorem acceptCycle_eq (time : Nat) (a b : Word) (s : State) : acceptCycle time a b s = { s with
    framer := { s.framer with
      acceptedCount := s.framer.acceptedCount + 1, last := some ⟨a, time⟩, position := 1, judging := none,
      cycle := some (opened true a b) }
    channels := dropStaging s.channels
    engine := { s.engine with held := [] } } := by
  unfold acceptCycle
  rw [headerKind_eq, headerSlots_eq]
  rfl

theorem gainedRecords_sameCandidate {before after : Framer} (number : Word) (h : after.candidate = before.candidate) :
    gainedRecords before after number = [] := by
  rw [gainedRecords, h]
  cases before.candidate <;> rfl

theorem exec_expected (hrun : s.inReset = false) (hm : s.framer.last = some m)
    (hj : s.framer.judging = some ⟨time, .window, some (m.number + BitVec.ofNat 16 s.framer.position)⟩)
    (hok : HeaderOk (m.number + BitVec.ofNat 16 s.framer.position) b) (hs : s.framer.slotCount = some (slotsOf b)) :
    exec (.itemReceived (.word b) inputs []) s = .next (atAcceptedMarker [] (m.number + BitVec.ofNat 16 s.framer.position) []
      (accepting b inputs (expectedFramer m time b s.framer) s)) := by
  have hnumber : lastNumber (afterItem (.word b) inputs s) = m.number := by
    rw [lastNumber_eq]
    exact congrArg (fun x => (Option.map Marker.number x).getD 0) hm
  have hjudged : headerItem ⟨time, .window, some (m.number + BitVec.ofNat 16 s.framer.position)⟩ (.word b)
      (afterItem (.word b) inputs s) = accepting b inputs (expectedFramer m time b s.framer) s := by
    refine (headerItem_valid rfl hok _).trans ((if_pos ⟨?_, ?_⟩).trans (acceptCycle_eq _ _ _ _))
    · rw [hnumber]
      rfl
    · rw [headerSlots_eq]
      exact hs
  have hgained : gainedRecords (afterItem (.word b) inputs s).framer (expectedFramer m time b s.framer)
      (m.number + BitVec.ofNat 16 s.framer.position) = [] := gainedRecords_sameCandidate _ rfl
  rw [exec_headerItem hrun hj, hjudged, settle_accepted rfl]
  exact congrArg (fun raised => Host.Outcome.next (atAcceptedMarker [] _ raised _)) hgained

/-- Settles O16, by what the expected marker brings to the other blocks. -/
theorem expectedMarkerIsAccepted : Obligations.ExpectedMarkerIsAccepted := by
  intro m time b inputs s hrun hm a hj hok hs
  refine ⟨_, exec_expected hrun hm hj hok hs, ?_, markerTaken (f := expectedFramer m time b s.framer) rfl (Nat.zero_le _)⟩
  obtain ⟨_, _, _, _, _, ht⟩ := atAcceptedMarker_only a [] (accepting b inputs (expectedFramer m time b s.framer) s)
  rw [ht]
  rfl

end Expected

/-! ### The marker of locking (R25, R26) -/

section Locking
variable {k : Candidate} {time : Nat}

/-- The framer at the header word B of the marker it locks on. -/
def lockedFramer (k : Candidate) (time : Nat) (a b : Word) (f : Framer) : Framer :=
  { f with
    now := f.now + 1
    acquisition := .locked
    reference := some (f.reference.getD (time - k.time))
    last := some ⟨a, time⟩
    failures := 0
    position := 1
    acceptedCount := f.acceptedCount + 1
    candidate := none
    judging := none
    cycle := some (opened true a b) }

theorem exec_locking (hrun : s.inReset = false) (hj : s.framer.judging = some ⟨time, .successor, some a⟩)
    (hk : s.framer.candidate = some k) (hok : HeaderOk a b) (hpass : Passes k s.framer.reference time a b)
    (hgood : k.target ≤ k.good) :
    exec (.itemReceived (.word b) inputs []) s = .next (atAcceptedMarker [] a [.alert ⟨.lockGained, a, 0, 0⟩]
      (accepting b inputs (lockedFramer k time a b s.framer) s)) := by
  have hpass : Passes k (afterItem (.word b) inputs s).framer.reference time a b := hpass
  have hka : (afterItem (.word b) inputs s).framer.candidate = some k := hk
  have hlocked : judgeSuccessor k time a b (afterItem (.word b) inputs s) =
      accepting b inputs (lockedFramer k time a b s.framer) s := by
    rw [judgeSuccessor_passes hpass, if_pos hgood]
    exact acceptCycle_eq _ _ _ _
  have hgained : gainedRecords (afterItem (.word b) inputs s).framer (lockedFramer k time a b s.framer) a =
      [.alert ⟨.lockGained, a, 0, 0⟩] := by
    rw [gainedRecords, hka]
    rfl
  rw [exec_successor hrun hj hk hok, hlocked, settle_accepted rfl]
  exact congrArg (fun raised => Host.Outcome.next (atAcceptedMarker [] a raised _)) hgained

/-- Settles O15, by what the marker of locking brings to the other blocks. -/
theorem passingMarkerEntersLocked : Obligations.PassingMarkerEntersLocked := by
  intro k time a b inputs s hrun hj hk htime hok hnumber hslots hspacing hreference hgood
  refine ⟨_, exec_locking hrun hj hk hok ⟨hnumber, hslots, hspacing, hreference⟩ hgood, ?_, fun h12 => ?_,
    markerTaken (f := lockedFramer k time a b s.framer) rfl (Nat.le_refl _)⟩
  · obtain ⟨_, _, _, _, _, ht⟩ := atAcceptedMarker_only a [.alert ⟨.lockGained, a, 0, 0⟩]
      (accepting b inputs (lockedFramer k time a b s.framer) s)
    rw [ht]
    rfl
  · refine atAcceptedMarker_admits (r := .alert _) (.head _) ?_
    show s.ret.events.length + 1 + 3 ≤ 16
    omega

/-- Settles O17, by the sample of the expected marker and of the marker of locking. -/
theorem sampleWithAnEdgeQueuesItsEvent : Obligations.SampleWithAnEdgeQueuesItsEvent := by
  refine ⟨fun m time b inputs s t hrun hm hj hok hs hexec => ?expected,
    fun k time a b inputs s t hrun hj hk htime hok hnumber hslots hspacing hreference hgood hexec => ?locking⟩
  case expected =>
    rw [exec_expected hrun hm hj hok hs] at hexec
    cases hexec
    exact sampleRaisesItsEvent (by simp) (Nat.le_refl _)
  case locking =>
    rw [exec_locking hrun hj hk hok ⟨hnumber, hslots, hspacing, hreference⟩ hgood] at hexec
    cases hexec
    exact sampleRaisesItsEvent (by simp) (Nat.le_refl _)

end Locking

end Accepted

end Sys2Proof.Machine
end

section
/-! PROOFS. The completion of a cycle and its held list (R31, R74, R75, R154, R170, R173). -/

namespace Sys2Proof.Machine

open Sys2Proof.Safety

variable {s t : State}

/-! ## Whether the blocks are held in reset is not the work's to change (R5) -/

theorem Change.inReset_eq {allowed : Origin → Prop} (hw : ¬ allowed .hardware) (hc : Change allowed s t) :
    t.inReset = s.inReset := by
  cases hc with
  | powerUp a | assert a | release _ a => exact absurd a hw
  | pins v _ hlow =>
    show (v.resetLow || s.powerHold) = (s.pins.resetLow || s.powerHold)
    rw [hlow]
  | store p v _ hp _ _ => rw [storeParam_only hp]; rfl
  | stationReset dest tag _ => rw [executeReset_only]; rfl
  | _ => rfl

theorem takeCommand_inReset (code : Byte) (c : Call) (s : State) : (takeCommand code c s).inReset = s.inReset :=
  Changes.same (Change.inReset_eq (by simp)) (changes_takeCommand (allowed := fun o => o = .command (kindOf code)) rfl c s)

theorem tripped_inReset (cause : Cause) (s : State) : (tripped cause s).inReset = s.inReset := by
  rw [← trip_eq]
  exact Changes.same (Change.inReset_eq id) (changes_trip (allowed := fun _ => False) cause s)

theorem amidTaken_inReset (s : State) (a : Amid) : (amidTaken s a).inReset = s.inReset := by
  cases a with
  | guardChange =>
    unfold amidTaken
    dsimp only
    split
    · exact tripped_inReset .line _
    · rfl
  | fault => rfl

theorem foldl_amidTaken_inReset (as : List Amid) (s : State) : (as.foldl amidTaken s).inReset = s.inReset := by
  induction as generalizing s with
  | nil => rfl
  | cons a as ih => exact (ih (amidTaken s a)).trans (amidTaken_inReset s a)

/-! ## What falls amid the list (R103, R111; log 23) -/

theorem lineActive_toggled (s : State) :
    lineActive { s with pins := { s.pins with guardHigh := !s.pins.guardHigh } } = !lineActive s := by
  rw [lineActive_level]
  unfold lineActive
  split <;> rfl

theorem takeAmid_eq (hrun : s.inReset = false) (a : Amid) : takeAmid s a = amidTaken s a := by
  cases a with
  | guardChange =>
    by_cases hline : lineActive s = false
    · exact (setGuardPin_trips hrun hline (by rw [lineActive_toggled, hline]; rfl)).trans (if_pos hline).symm
    · exact (setGuardPin_still (.inl (by simpa using hline))).trans (if_neg hline).symm
  | fault => exact if_neg (by rw [hrun]; exact Bool.false_ne_true)

theorem takeAmids_eq (hrun : s.inReset = false) (as : List Amid) : takeAmids as s = as.foldl amidTaken s := by
  induction as generalizing s with
  | nil => rfl
  | cons a as ih =>
    show takeAmids as (takeAmid s a) = as.foldl amidTaken (amidTaken s a)
    rw [takeAmid_eq hrun]
    exact ih ((amidTaken_inReset s a).trans hrun)

/-! ## A RESET-STATION that executes (R156 to R158, R169, R170) -/

/-- No duplicate tag stops a command, and a single-destination one finds a reply place (R156 to R158). -/
def Unstopped (c : Call) (s : State) : Prop :=
  (c.dest = .single → (c.tag = 0 ∨ c.tag ≠ s.agent.stationTag) ∧ s.ret.replies.length < 8) ∧
    (c.dest ≠ .single → c.tag = 0 ∨ c.tag ≠ s.agent.groupTag)

theorem executes_iff (c : Call) (s : State) : Executes c.dest c.tag s ↔ atCompletion s = true ∧ Unstopped c s := by
  cases h : c.dest <;> simp [Executes, Unstopped, h]

theorem judgeCommand_reset (c : Call) (s : State) : judgeCommand 0x10 c s = .executed ↔ Unstopped c s := by
  have hgroup : groupAllowed (kindOf 0x10) = true := rfl
  have hroom : replyRoom s = true ↔ s.ret.replies.length < 8 := decide_eq_true_iff
  have hnew (x : Byte) : ¬ (c.tag ≠ 0 ∧ c.tag = x) ↔ c.tag = 0 ∨ c.tag ≠ x := by tauto
  unfold judgeCommand Unstopped
  cases c.dest with
  | single =>
    rw [← hroom, ← hnew]
    dsimp only
    rw [if_neg (show kindOf 0x10 ≠ .acknowledge by decide)]
    by_cases hdup : c.tag ≠ 0 ∧ c.tag = s.agent.stationTag
    · rw [if_pos hdup]
      exact ⟨fun h => (by cases h), fun h => absurd hdup (h.1 rfl).1⟩
    · rw [if_neg hdup]
      by_cases hr : replyRoom s = true
      · rw [if_pos hr]
        exact ⟨fun _ => ⟨fun _ => ⟨hdup, hr⟩, fun h => absurd rfl h⟩, fun _ => rfl⟩
      · rw [if_neg hr]
        exact ⟨fun h => (by cases h), fun h => absurd (h.1 rfl).2 hr⟩
  | group | all =>
    rw [← hnew s.agent.groupTag]
    dsimp only
    rw [hgroup, Bool.not_true, if_neg Bool.false_ne_true]
    by_cases hdup : c.tag ≠ 0 ∧ c.tag = s.agent.groupTag
    · rw [if_pos hdup]
      exact ⟨fun h => (by cases h), fun h => absurd hdup (h.2 (by decide))⟩
    · rw [if_neg hdup]
      exact ⟨fun _ => ⟨fun h => (by cases h), fun _ => hdup⟩, fun _ => rfl⟩

theorem discardsRest_iff (code : Byte) (c : Call) (s : State) :
    discardsRest code c s = true ↔ code = 0x10 ∧ NoArguments c ∧ Unstopped c s := by
  rw [discardsRest, isReset, Bool.and_eq_true, Bool.and_eq_true, beq_iff_eq, beq_iff_eq, kindOf_resetStation,
    noArguments_iff]
  constructor
  · rintro ⟨hjudge, rfl, ha⟩
    exact ⟨rfl, ha, (judgeCommand_reset c s).mp hjudge⟩
  · rintro ⟨rfl, ha, hu⟩
    exact ⟨(judgeCommand_reset c s).mpr hu, rfl, ha⟩

theorem resetsStation_iff (e : HeldEntry) (s : State) :
    resetsStation e s = true ↔ e.code = 0x10 ∧ NoArguments e.call ∧ Unstopped e.call s := by
  unfold resetsStation Unstopped NoArguments
  cases h : e.call.dest <;> simp [and_assoc]

theorem discardsRest_eq (e : HeldEntry) (s : State) : discardsRest e.code e.call s = resetsStation e s := by
  rw [Bool.eq_iff_iff, discardsRest_iff, resetsStation_iff]

theorem inReset_of_atCompletion (h : atCompletion s = true) : s.inReset = false := by
  rw [atCompletion, Bool.and_assoc, Bool.and_eq_true, Bool.not_eq_true'] at h
  exact h.1

/-! ## The held list (R75, R154, R170, R173) -/

theorem runHeld_eq (es : List HeldEntry) (amid : List (List Amid)) (hrun : s.inReset = false) :
    runHeld es amid s = ranHeld es amid s := by
  induction es generalizing amid s with
  | nil => exact takeAmids_eq hrun _
  | cons e es ih =>
    have hafter : (takeCommand e.code e.call ((amid.headD []).foldl amidTaken s)).inReset = false :=
      (takeCommand_inReset _ _ _).trans ((foldl_amidTaken_inReset _ s).trans hrun)
    unfold runHeld ranHeld
    dsimp only
    rw [takeAmids_eq hrun, discardsRest_eq, takeAmids_eq hafter, ih amid.tail hafter]

theorem runHeld_resets {e : HeldEntry} (rest : List HeldEntry) (amid : List (List Amid)) (hrun : s.inReset = false)
    (h : resetsStation e ((amid.headD []).foldl amidTaken s) = true) :
    runHeld (e :: rest) amid s = amid.tail.flatten.foldl amidTaken
      (takeCommand e.code e.call ((amid.headD []).foldl amidTaken s)) :=
  (runHeld_eq (e :: rest) amid hrun).trans (if_pos h)

theorem runHeld_goesOn {e : HeldEntry} (rest : List HeldEntry) (amid : List (List Amid)) (hrun : s.inReset = false)
    (h : resetsStation e ((amid.headD []).foldl amidTaken s) ≠ true) :
    runHeld (e :: rest) amid s = runHeld rest amid.tail
      (takeCommand e.code e.call ((amid.headD []).foldl amidTaken s)) := by
  have hafter : (takeCommand e.code e.call ((amid.headD []).foldl amidTaken s)).inReset = false :=
    (takeCommand_inReset _ _ _).trans ((foldl_amidTaken_inReset _ s).trans hrun)
  rw [runHeld_eq rest amid.tail hafter]
  exact (runHeld_eq (e :: rest) amid hrun).trans (if_neg h)

/-! ## The completion (R31, R35, R74) -/

theorem makeReady_eq (cs : Vector Channel 8) : makeReady cs = Vector.ofFn fun i => { cs[i] with
    ready := if cs[i].staged = none then cs[i].ready else cs[i].staged, staged := none } := by
  refine congrArg Vector.ofFn (funext fun i => ?_)
  dsimp only
  generalize cs[i] = ch
  cases h : ch.staged <;> rfl

theorem completeCycle_eq (amid : List (List Amid)) (hrun : s.inReset = false) : completeCycle amid s =
    let ready : State := { s with
      framer := { s.framer with acquisition := .locked, failures := 0 }
      channels := Vector.ofFn fun i => { s.channels[i] with
        ready := if s.channels[i].staged = none then s.channels[i].ready else s.channels[i].staged
        staged := none } }
    let ran := ranHeld s.engine.held amid ready
    { ran with engine := { ran.engine with held := [] } } := by
  have hran : runHeld s.engine.held amid { s with
      framer := { s.framer with acquisition := .locked, failures := 0 }, channels := makeReady s.channels } = _ :=
    runHeld_eq s.engine.held amid hrun
  rw [makeReady_eq] at hran
  unfold completeCycle
  dsimp only
  rw [makeReady_eq]
  exact congrArg (fun u : State => u.putEngine { u.engine with held := [] }) hran

/-- Settles O21, by the framer's step at the trailer and the held list. -/
theorem correctTrailerCompletesTheCycle : Obligations.CorrectTrailerCompletesTheCycle := by
  intro c inputs amid s hrun hf hj hc hacc hstatus hcheck hpos
  have hcompletes : completes (.word c.sum) (afterItem (.word c.sum) inputs s) = true :=
    completes_iff.mpr ⟨c, hj, hc, hacc, hstatus, hpos, rfl, hcheck⟩
  obtain ⟨d, -, hd, -, hframe⟩ := frameItem_of_completes hcompletes
  obtain rfl : c = d := Option.some.inj (hc.symm.trans hd)
  have hframed : (frameItem (.word c.sum) (afterItem (.word c.sum) inputs s)).inReset = false := by
    rw [hframe]
    exact hrun
  show Host.Outcome.next (receiveItem (.word c.sum) inputs amid s) = _
  rw [receiveItem, takeItem_running _ _ _ _ hrun, if_pos hcompletes, completeCycle_eq amid hframed, hframe]
  rfl

/-- Settles O22: the row's moment, and the held list by its first entry. -/
theorem completionRunsTheHeldListInSlotOrder : Obligations.CompletionRunsTheHeldListInSlotOrder := by
  refine ⟨⟨fun c amid s hrun hf hc hacc hstatus hcheck hpos => ?completed, fun i code c s hi hat => ?command⟩,
    fun e rest amid s hcode ha hx => ?resets, fun e rest amid s hrun hgoes => ?goesOn⟩
  case completed =>
    have hdue : (followsRing s && trailerDue c) = true := by
      rw [Bool.and_eq_true, followsRing_iff, ← follows_iff, trailerDue_iff]
      exact ⟨⟨hrun, hf⟩, hacc, hstatus, hcheck, hpos⟩
    have hmarked : (s.putFramer { s.framer with cycle := some { c with status := .completed } }).inReset = false := hrun
    show execCycleCompleted amid s = _
    unfold execCycleCompleted
    rw [hc]
    dsimp only
    rw [if_pos hdue, completeCycle_eq amid hmarked]
    rfl
  case command => rw [exec_commandRecord hi, commandStep_atCompletion code c s hat]
  case resets =>
    obtain ⟨hat, hunstopped⟩ := (executes_iff e.call _).mp hx
    refine runHeld_resets rest amid ?_ ((resetsStation_iff e _).mpr ⟨hcode, ha, hunstopped⟩)
    rw [← foldl_amidTaken_inReset (amid.headD []) s]
    exact inReset_of_atCompletion hat
  case goesOn =>
    refine runHeld_goesOn rest amid hrun fun hresets => ?_
    obtain ⟨hcode, ha, hsingle, hgroup⟩ := (resetsStation_iff e _).mp hresets
    obtain h | h | ⟨hd, h⟩ | ⟨hd, ht, h⟩ := hgoes
    · exact h hcode
    · exact h ha
    · obtain ⟨htag, hroom⟩ := hsingle hd
      obtain ⟨ht, hsame⟩ | hfull := h
      · exact htag.elim ht fun hne => hne hsame
      · exact absurd hroom (Nat.not_lt.mpr hfull)
    · exact (hgroup hd).elim ht fun hne => hne h

end Sys2Proof.Machine
end
